-- ==== Sys2Proof/Word.lean ====
section
/-! DEFINITION. Word sizes of 00_scope.md rules R4 and R5: a word is 64 bits, a byte is 8 bits, all values unsigned. -/

namespace Sys2Proof

/-- A word: 64 bits, unsigned (R5). `+` on it is the wrapping addition of R6. -/
abbrev Word := BitVec 64

/-- A byte: 8 bits (R5). -/
abbrev Byte := BitVec 8

end Sys2Proof
end

