-- ==== Sys2Proof/Config.lean ====
section
/-! DEFINITION. The free values: what stands where the spec says `unspecified` and the machine goes on.
None has a body, so nothing can be proved of any of them. The spec leaves no size and no parameter to an
implementation (00_scope.md R4), so there is no other configuration. -/

namespace Sys2Proof

/-- The bytes the spec leaves unspecified: `DIGEST[0..63]` after INIT (41_digest_driver.md R111 line 4),
`DIGEST[NN..63]` after EMIT (R116 line 3), and every byte register after RST (10_state.md R29).
Applied to the counter `fresh` of State (log 3; for RST log 2). -/
opaque Config.freeByte : Nat → Byte

/-- The words the spec leaves unspecified: every 64-bit register after RST (10_state.md R29, log 2). -/
opaque Config.freeWord : Nat → Word

/-- The bit the spec leaves unspecified: `LAST` after RST (10_state.md R29, log 2). -/
opaque Config.freeBit : Nat → Bool

end Sys2Proof
end

