-- ==== Sys2Proof/Syntax.lean ====
section
/-! DEFINITION. The operations of 30_encoding.md rule R72, one constructor for each row of opcode_table.json,
and the two kinds of encoded word (R60). -/

namespace Sys2Proof

/-- The operations (R72): one host command, sixteen micro-operations, three wait states.
The round of a `Gk` is one of 0..11 by its type (R61); `nn` and `len` are used as they are (R65). -/
inductive Instr where
  /-- START nn, len, the host command (42_host_interface.md R141). -/
  | start (nn : BitVec 8) (len : BitVec 64)
  /-- INIT (41_digest_driver.md R111). -/
  | init
  /-- SEL (R112). -/
  | sel
  /-- LOADN (R113). -/
  | loadn
  /-- LOADF (R114). -/
  | loadf
  /-- VSET (40_compression_engine.md R87). -/
  | vset
  /-- MDEC (R88). -/
  | mdec
  /-- G0 r (R93). -/
  | g0 (r : Fin 12)
  /-- G1 r (R94). -/
  | g1 (r : Fin 12)
  /-- G2 r (R95). -/
  | g2 (r : Fin 12)
  /-- G3 r (R96). -/
  | g3 (r : Fin 12)
  /-- G4 r (R97). -/
  | g4 (r : Fin 12)
  /-- G5 r (R98). -/
  | g5 (r : Fin 12)
  /-- G6 r (R99). -/
  | g6 (r : Fin 12)
  /-- G7 r (R100). -/
  | g7 (r : Fin 12)
  /-- FOLD (R91). -/
  | fold
  /-- EMIT (R116). -/
  | emit
  /-- The wait state IDLE (R121). -/
  | idle
  /-- The wait state DONE (R121). -/
  | done
  /-- The wait state ERROR (R121). -/
  | error
  deriving DecidableEq, Repr

/-- The named values of the field PHASE (R62). -/
inductive Phase where
  | idle | init | sel | loadn | loadf | vset | mdec | g | fold | emit | done | error
  deriving DecidableEq, Repr

/-- An encoded word on the port it appears on: the port alone tells its format (R60). -/
inductive Code where
  /-- A format H word on the command port CMD (R66). -/
  | command (w : BitVec 80)
  /-- A format M word in the register SEQ (R61). -/
  | sequencer (w : BitVec 12)
  deriving DecidableEq, Repr

/-- Why a word is no operation. -/
inductive DecodeError where
  /-- Format H with `op` other than 0x01 (R67, R147). -/
  | reservedOp
  /-- Format M with PHASE 0xC to 0xF (R68). -/
  | reservedPhase
  /-- PHASE = G with R above 11 (R68). -/
  | reservedRound
  /-- PHASE = G with K above 7 (R68). -/
  | reservedInvocation
  /-- Another PHASE with R or K non-zero (R68). -/
  | nonzeroOperand
  deriving DecidableEq, Repr

/-- The result of decoding a word. -/
inductive Decoded where
  | ok (i : Instr)
  | bad (e : DecodeError)
  deriving DecidableEq, Repr

end Sys2Proof
end

