-- ==== Sys2Proof/Decode.lean ====
section
/-! DEFINITION. The decoder of both formats, and the encoder written from the same tables (30_encoding.md
R61, R62, R63, R66). Reserved words are rejected by name (R67, R68). -/

namespace Sys2Proof

/-- The PHASE codes (R62). -/
def Phase.code : Phase → BitVec 4
  | .idle => 0x0
  | .init => 0x1
  | .sel => 0x2
  | .loadn => 0x3
  | .loadf => 0x4
  | .vset => 0x5
  | .mdec => 0x6
  | .g => 0x7
  | .fold => 0x8
  | .emit => 0x9
  | .done => 0xA
  | .error => 0xB

/-- PHASE = SEQ[11:8] (R61). -/
def phaseField (w : BitVec 12) : BitVec 4 := w.extractLsb' 8 4

/-- R = SEQ[7:4] (R61). -/
def roundField (w : BitVec 12) : BitVec 4 := w.extractLsb' 4 4

/-- K = SEQ[3:0] (R61). -/
def invocationField (w : BitVec 12) : BitVec 4 := w.extractLsb' 0 4

/-- The word with PHASE, R and K in their places (R61). -/
def seqWord (p : Phase) (r k : BitVec 4) : BitVec 12 := (p.code ++ r ++ k).cast (by decide)

/-- op = bits 79:72 of a command word (R66). -/
def opField (w : BitVec 80) : BitVec 8 := w.extractLsb' 72 8

/-- nn = bits 71:64 of a command word (R66). -/
def nnField (w : BitVec 80) : BitVec 8 := w.extractLsb' 64 8

/-- len = bits 63:0 of a command word (R66). -/
def lenField (w : BitVec 80) : BitVec 64 := w.extractLsb' 0 64

/-- The command code of START (R66). -/
def opStart : BitVec 8 := 0x01

/-- The word with op, nn and len in their places (R66). -/
def commandWord (op nn : BitVec 8) (len : BitVec 64) : BitVec 80 := (op ++ nn ++ len).cast (by decide)

/-- The operation of a PHASE code that takes no operand (R62); none for G and for the reserved codes. -/
def plainOperation : Nat → Option Instr
  | 0x0 => some .idle
  | 0x1 => some .init
  | 0x2 => some .sel
  | 0x3 => some .loadn
  | 0x4 => some .loadf
  | 0x5 => some .vset
  | 0x6 => some .mdec
  | 0x8 => some .fold
  | 0x9 => some .emit
  | 0xA => some .done
  | 0xB => some .error
  | _ => none

/-- The mixing micro-operation of an invocation number and a round (R63). -/
def mixingOperation (r : Fin 12) : Nat → Option Instr
  | 0 => some (.g0 r)
  | 1 => some (.g1 r)
  | 2 => some (.g2 r)
  | 3 => some (.g3 r)
  | 4 => some (.g4 r)
  | 5 => some (.g5 r)
  | 6 => some (.g6 r)
  | 7 => some (.g7 r)
  | _ => none

/-- A format M word with PHASE = G (R63, R68). -/
def decodeMixing (r k : BitVec 4) : Decoded :=
  if h : r.toNat < 12 then
    match mixingOperation ⟨r.toNat, h⟩ k.toNat with
    | some i => .ok i
    | none => .bad .reservedInvocation
  else .bad .reservedRound

/-- A format M word with another PHASE (R63, R68). -/
def decodePlain (p r k : BitVec 4) : Decoded :=
  match plainOperation p.toNat with
  | some i => if r = 0 ∧ k = 0 then .ok i else .bad .nonzeroOperand
  | none => .bad .reservedPhase

/-- Format M (R61 to R63): total on all 4096 words. -/
def decodeSequencer (w : BitVec 12) : Decoded :=
  if phaseField w = Phase.g.code then decodeMixing (roundField w) (invocationField w)
  else decodePlain (phaseField w) (roundField w) (invocationField w)

/-- Format H (R66, R67): total on all words. -/
def decodeCommand (w : BitVec 80) : Decoded :=
  if opField w = opStart then .ok (.start (nnField w) (lenField w)) else .bad .reservedOp

/-- The decoder: the format comes from the port (R60). -/
def decode : Code → Decoded
  | .command w => decodeCommand w
  | .sequencer w => decodeSequencer w

/-- The word of `Gk r` (R63). -/
def mixingWord (r : Fin 12) (k : BitVec 4) : Code := .sequencer (seqWord .g (BitVec.ofNat 4 r.val) k)

/-- The word of an operation without operands (R63). -/
def plainWord (p : Phase) : Code := .sequencer (seqWord p 0 0)

/-- The encoder (R63, R66). -/
def encode : Instr → Code
  | .start nn len => .command (commandWord opStart nn len)
  | .init => plainWord .init
  | .sel => plainWord .sel
  | .loadn => plainWord .loadn
  | .loadf => plainWord .loadf
  | .vset => plainWord .vset
  | .mdec => plainWord .mdec
  | .g0 r => mixingWord r 0
  | .g1 r => mixingWord r 1
  | .g2 r => mixingWord r 2
  | .g3 r => mixingWord r 3
  | .g4 r => mixingWord r 4
  | .g5 r => mixingWord r 5
  | .g6 r => mixingWord r 6
  | .g7 r => mixingWord r 7
  | .fold => plainWord .fold
  | .emit => plainWord .emit
  | .idle => plainWord .idle
  | .done => plainWord .done
  | .error => plainWord .error

/-- The operation a decoding gives, if any. -/
def Decoded.instr? : Decoded → Option Instr
  | .ok i => some i
  | .bad _ => none

/-- An opcode-table row's bits as a word on its port: a row of 12 bits (16 in whole bytes) is a format M word,
a row of 80 bits a format H word; none where a bit stands above the format's width (log 4). -/
def tableCode (nbits w : Nat) : Option Code :=
  if nbits ≤ 16 then
    if w < 2 ^ 12 then some (.sequencer (BitVec.ofNat 12 w)) else none
  else if w < 2 ^ 80 then some (.command (BitVec.ofNat 80 w)) else none

/-- What the decoder reads from an instruction of the opcode table, its bits numbered as the table numbers them. -/
def decodeTableWord (nbits w : Nat) : Option Instr :=
  match tableCode nbits w with
  | some c => (decode c).instr?
  | none => none

/-! Every constructor's decoding, shown on a word written out field by field from the tables of R62, R63 and R66. -/

/-- START 64, 3 is 0x01400000000000000003 (R66, R141). -/
theorem decode_start_word : decode (.command 0x01400000000000000003#80) = .ok (.start 64 3) := by decide
theorem decode_init_word : decode (.sequencer 0b000100000000#12) = .ok .init := by decide
theorem decode_sel_word : decode (.sequencer 0b001000000000#12) = .ok .sel := by decide
theorem decode_loadn_word : decode (.sequencer 0b001100000000#12) = .ok .loadn := by decide
theorem decode_loadf_word : decode (.sequencer 0b010000000000#12) = .ok .loadf := by decide
theorem decode_vset_word : decode (.sequencer 0b010100000000#12) = .ok .vset := by decide
theorem decode_mdec_word : decode (.sequencer 0b011000000000#12) = .ok .mdec := by decide
theorem decode_g0_word : decode (.sequencer 0b011110110000#12) = .ok (.g0 11) := by decide
theorem decode_g1_word : decode (.sequencer 0b011100010001#12) = .ok (.g1 1) := by decide
theorem decode_g2_word : decode (.sequencer 0b011100100010#12) = .ok (.g2 2) := by decide
/-- 0x793 is G3 of round 9 (95_test_vectors.md section 3). -/
theorem decode_g3_word : decode (.sequencer 0b011110010011#12) = .ok (.g3 9) := by decide
theorem decode_g4_word : decode (.sequencer 0b011101000100#12) = .ok (.g4 4) := by decide
/-- `G5 3` is 0x735 (R63). -/
theorem decode_g5_word : decode (.sequencer 0b011100110101#12) = .ok (.g5 3) := by decide
theorem decode_g6_word : decode (.sequencer 0b011101010110#12) = .ok (.g6 5) := by decide
/-- 0x7B7 is G7 of round 11 (R63). -/
theorem decode_g7_word : decode (.sequencer 0b011110110111#12) = .ok (.g7 11) := by decide
theorem decode_fold_word : decode (.sequencer 0b100000000000#12) = .ok .fold := by decide
theorem decode_emit_word : decode (.sequencer 0b100100000000#12) = .ok .emit := by decide
theorem decode_idle_word : decode (.sequencer 0b000000000000#12) = .ok .idle := by decide
theorem decode_done_word : decode (.sequencer 0b101000000000#12) = .ok .done := by decide
theorem decode_error_word : decode (.sequencer 0b101100000000#12) = .ok .error := by decide

end Sys2Proof
end

