-- ==== Sys2Proof/Machine/Bits.lean ====
section
/-! DEFINITION. The arithmetic and byte-order primitives of 00_scope.md R6 and R7. Wrapping addition, exclusive or
and complement are the operations of `BitVec 64` themselves. -/

namespace Sys2Proof.Machine

/-- `rotr64(a, n)`: bit `i` of the result is bit `(i + n) mod 64` of `a` (R6). -/
def rotr64 (a : Word) (n : Nat) : Word := a.rotateRight n

/-- `le64(b0, ..., b7)`: the first byte is the least significant (R7). -/
def le64 (b0 b1 b2 b3 b4 b5 b6 b7 : Byte) : Word :=
  (b7 ++ b6 ++ b5 ++ b4 ++ b3 ++ b2 ++ b1 ++ b0).cast (by decide)

/-- `byte(w, i)` is bits 8i+7 to 8i of `w` (R7). -/
def byteOf (w : Word) (i : Nat) : Byte := w.extractLsb' (8 * i) 8

end Sys2Proof.Machine
end

