-- ==== Sys2Proof/Machine/State.lean ====
section
/-! DEFINITION. The state of one block instance (10_state.md R10), and of the two agents around it, the byte
source and the host (00_scope.md R9), as plain data; the reasons a step can stop; the state after reset (R29). -/

namespace Sys2Proof.Machine

/-- What the byte source does with one request (20_memory.md R41). -/
inductive SrcAct where
  /-- Answer `ok` with the bytes it holds from the offset on, up to the count asked. -/
  | serve
  /-- Answer `ok` with these bytes, whatever it holds (a source that breaks its contract, U3, U5). -/
  | give (bytes : List Byte)
  /-- Answer `err(code)`. -/
  | fail (code : Byte)
  /-- Never answer: the run stays in its load for ever (R52). -/
  | hang
  deriving DecidableEq, Repr

/-- What the byte source answers to one request (R41). -/
inductive Answer where
  | ok (bytes : List Byte)
  | err (code : Byte)
  /-- No answer (R52). -/
  | silent
  deriving DecidableEq, Repr

/-- A read request on SRC_REQ: an offset and a byte count (R41; 42_host_interface.md R140). -/
structure Request where
  off : BitVec 64
  count : Nat
  deriving DecidableEq, Repr

/-- What the host does between two micro-operations (42_host_interface.md R140, R145; log 7). -/
inductive HostAct where
  /-- Nothing. -/
  | wait
  /-- Present a word on CMD, and keep presenting it (R142). -/
  | present (w : BitVec 80)
  /-- Stop presenting a word on CMD. -/
  | withdraw
  /-- Assert RST (70_reset_and_hazards.md R180, R181). -/
  | assertRst
  /-- Release RST (R180). -/
  | releaseRst
  /-- Attach a byte source holding a message, with its choices for the coming requests (R182). -/
  | attach (msg : List Byte) (plan : List SrcAct)
  /-- Change one byte of the attached source's contents (against the host's duty, R144 (d), U5). -/
  | poke (off : BitVec 64) (b : Byte)
  deriving DecidableEq, Repr

/-- The four readings of STATUS (10_state.md R21). -/
inductive Status where
  | idle | busy | done | error
  deriving DecidableEq, Repr

/-- The state. The first eleven fields are the block's registers, all of them (R10); then what the block sees of
the byte source and of the host; the last is the model's own. -/
@[ext]
structure State where
  /-- The working vector (R11). -/
  V : Vector Word 16
  /-- The hash state (R12). -/
  H : Vector Word 8
  /-- The message words (R13). -/
  M : Vector Word 16
  /-- The block buffer (R14). -/
  BLK : Vector Byte 128
  /-- The sequencer register (R15). -/
  SEQ : BitVec 12
  /-- The last-block flag (R16). -/
  LAST : Bool
  /-- The byte counter (R17). -/
  T : Word
  /-- The total length in bytes (R18). -/
  LEN : Word
  /-- The digest length in bytes (R19). -/
  NN : BitVec 8
  /-- The reason of the last entry to ERROR (R20). -/
  CAUSE : BitVec 8
  /-- The digest output buffer, address space OUT (R22; 20_memory.md R40). -/
  DIGEST : Vector Byte 64
  /-- Address space SRC: the byte source's contents, offset and byte, offsets strictly rising (20_memory.md R40). -/
  mem : List Host.Cell
  /-- The byte source's choices for the coming requests, next first; when used up it serves (R41). -/
  srcPlan : List SrcAct
  /-- The requests answered so far, oldest first (R46, R49; log 6). -/
  requests : List Request
  /-- The level of the RST input (42_host_interface.md R140). -/
  rst : Bool
  /-- The word the host presents on CMD, if any (R140, R142). -/
  cmd : Option (BitVec 80)
  /-- What the host does next, one act a step (log 7). -/
  host : List HostAct
  /-- The model's own: the index of the next free values (log 3). -/
  fresh : Nat
  deriving DecidableEq, Repr

/-- Why the machine stops. Both are safe: the hardware, should it ever be there, has no behaviour the spec states,
and no run from reset gets there. -/
inductive Fault where
  /-- Raised by `step` when SEQ holds one of the 3989 reserved words: stuck, no micro-operation is enabled
  (30_encoding.md R68; U9). Safe (log 11). -/
  | reservedSequencerWord
  /-- Raised by LOADF when LEN - T is not in 0..128, where no rule says what it asks for (41_digest_driver.md
  R114 line 1; R120 shows that no run gets there). Safe (log 12). -/
  | finalCountOutOfRange
  deriving DecidableEq, Repr

/-- Why the model gives no meaning. -/
inductive Refusal where
  /-- Raised by the dispatcher for an operation without a meaning. Safe; no operation of this model is left so. -/
  | notModelled (mnemonic : String)
  /-- Raised by START, when it would be accepted, with `nn` outside 1..64: the spec states no behaviour and orders
  a model to refuse (30_encoding.md R67; U1). Safe (log 9). -/
  | digestLengthOutsideContract
  /-- Raised by LOADN and LOADF when the byte source answers more bytes than were asked for: the spec orders a model
  to refuse (20_memory.md R41; U13). Safe (log 10). -/
  | answerLongerThanAsked
  deriving DecidableEq, Repr

/-- What a step or a meaning answers. -/
abbrev Out := Host.Outcome State Fault Refusal

/-- The state after reset (R29, R180): SEQ is IDLE. Every other register is unspecified there; the zeros are a
DESIGN CHOICE (log 1). RST is released, nothing is presented, no source contents are listed (logs 5, 7). -/
def State.reset : State where
  V := Vector.replicate 16 0
  H := Vector.replicate 8 0
  M := Vector.replicate 16 0
  BLK := Vector.replicate 128 0
  SEQ := 0x000
  LAST := false
  T := 0
  LEN := 0
  NN := 0
  CAUSE := 0
  DIGEST := Vector.replicate 64 0
  mem := []
  srcPlan := []
  requests := []
  rst := false
  cmd := none
  host := []
  fresh := 0

end Sys2Proof.Machine
end

