-- ==== Sys2Proof/Machine/Memory.lean ====
section
/-! DEFINITION. The address space SRC, the contents of the byte source (20_memory.md R40): a list of offset and
byte, offsets strictly rising and below 2^64. An unlisted offset holds no byte (log 5). The block only reads it
(R49); the writes are the host's. -/

namespace Sys2Proof.Machine

/-- Offsets strictly rise from `lo` on and are offsets of 64 bits. -/
def Memory.wfFrom : Nat → List Host.Cell → Bool
  | _, [] => true
  | lo, (a, _) :: m => decide (lo ≤ a ∧ a < 2 ^ 64) && Memory.wfFrom (a + 1) m

/-- The canonical form: offsets strictly rising, each below 2^64. -/
def Memory.wf (m : List Host.Cell) : Bool := Memory.wfFrom 0 m

/-- The byte at an offset, if the source holds one there. -/
def Memory.read : List Host.Cell → Nat → Option Byte
  | [], _ => none
  | (a', b) :: m, a => if a' = a then some b else Memory.read m a

/-- Put a byte at an offset, in its place in the canonical form. -/
def Memory.write : List Host.Cell → Nat → Byte → List Host.Cell
  | [], a, b => [(a, b)]
  | (a', b') :: m, a, b =>
    if a < a' then (a, b) :: (a', b') :: m
    else if a = a' then (a, b) :: m
    else (a', b') :: Memory.write m a b

/-- The bytes held from offset `a` on, at most `n`, up to the first offset without one: what an `ok` answer to the
request `(a, n)` carries (R41, R42: "the byte at offset `off` first"). -/
def Memory.readUpTo (m : List Host.Cell) : Nat → Nat → List Byte
  | _, 0 => []
  | a, n + 1 =>
    match Memory.read m a with
    | some b => b :: Memory.readUpTo m (a + 1) n
    | none => []

/-- A message laid out from offset `a` on; bytes past the last 64-bit offset have no place (00_scope.md R4). -/
def Memory.ofBytesFrom : Nat → List Byte → List Host.Cell
  | _, [] => []
  | a, b :: bs => if a < 2 ^ 64 then (a, b) :: Memory.ofBytesFrom (a + 1) bs else []

/-- A message laid out from offset 0 on: byte `i` of the message at offset `i` (R41). -/
def Memory.ofBytes (msg : List Byte) : List Host.Cell := Memory.ofBytesFrom 0 msg

end Sys2Proof.Machine
end

