-- ==== Sys2Proof/Machine/Ops.lean ====
section
/-! DEFINITION. The operations that the meanings share: register writes, the SEQ advance, the two memory primitives
(20_memory.md R42, R43), raising an exception (60_exceptions.md R165), reset (70_reset_and_hazards.md R180), the
mixing primitive (40_compression_engine.md R84). -/

namespace Sys2Proof.Machine

/-! Register writes: each writes one field and no other. -/

def State.setV (s : State) (v : Vector Word 16) : State := { s with V := v }
def State.setH (s : State) (h : Vector Word 8) : State := { s with H := h }
def State.setM (s : State) (m : Vector Word 16) : State := { s with M := m }
def State.setBLK (s : State) (b : Vector Byte 128) : State := { s with BLK := b }
def State.setSEQ (s : State) (w : BitVec 12) : State := { s with SEQ := w }
def State.setT (s : State) (t : Word) : State := { s with T := t }
def State.setLEN (s : State) (l : Word) : State := { s with LEN := l }
def State.setNN (s : State) (n : BitVec 8) : State := { s with NN := n }
def State.setCAUSE (s : State) (c : BitVec 8) : State := { s with CAUSE := c }
def State.setDIGEST (s : State) (d : Vector Byte 64) : State := { s with DIGEST := d }
def State.setCmd (s : State) (c : Option (BitVec 80)) : State := { s with cmd := c }
def State.setFresh (s : State) (n : Nat) : State := { s with fresh := n }

/-- `SEQ <- (PHASE, r, k)`, the SEQ advance that ends every micro-operation (10_state.md R15; 00_scope.md R8). -/
def State.advance (s : State) (p : Phase) (r k : BitVec 4) : State := s.setSEQ (seqWord p r k)

/-! Exceptions. -/

/-- Taking an exception with cause code `c`: CAUSE and SEQ are written and nothing else (R165). There is no return
from an exception: ERROR is left by START or by RST (R167). -/
def State.raise (s : State) (c : BitVec 8) : State := (s.setCAUSE c).advance .error 0 0

/-! The byte source. -/

/-- What the byte source answers to the request `(off, n)` (R41). -/
def sourceAnswer (s : State) (off : Word) (n : Nat) : Answer :=
  match s.srcPlan with
  | [] => .ok (Memory.readUpTo s.mem off.toNat n)
  | .serve :: _ => .ok (Memory.readUpTo s.mem off.toNat n)
  | .give bytes :: _ => .ok bytes
  | .fail code :: _ => .err code
  | .hang :: _ => .silent

/-- The request `(off, n)` has been answered: one event (R49), recorded, and the source goes on to its next choice. -/
def State.answered (s : State) (off : Word) (n : Nat) : State :=
  { s with srcPlan := s.srcPlan.tail, requests := s.requests ++ [⟨off, n⟩] }

/-- `MemRead(off, n)` (R42): on `ok(bytes)` go on with the bytes as `k` says; on `err(code)` raise
`SourceError(code)` (R162); on no answer stay in this micro-operation with nothing changed (R52). An answer of more
than `n` bytes is no answer of the model (R41, U13). -/
def memRead (s : State) (off : Word) (n : Nat) (k : List Byte → State → Out) : Out :=
  match sourceAnswer s off n with
  | .silent => .next s
  | .err code => .next ((s.answered off n).raise code)
  | .ok bytes =>
    if n < bytes.length then .refused .answerLongerThanAsked else k bytes (s.answered off n)

/-- `MemWrite(j, n, bytes)`: `DIGEST[j + i] <- bytes[i]` for `0 <= i < n` (R43). -/
def memWrite (d : Vector Byte 64) (j n : Nat) (bytes : List Byte) : Vector Byte 64 :=
  Vector.ofFn fun i : Fin 64 =>
    if j ≤ i.val ∧ i.val < j + n then bytes.getD (i.val - j) 0 else d[i]

/-- 128 bytes for BLK from an answer: the bytes answered, then zeros
(41_digest_driver.md R113 line 3; R114 lines 4 and 5). -/
def blockOf (bytes : List Byte) : Vector Byte 128 :=
  Vector.ofFn fun j : Fin 128 => bytes.getD j.val 0

/-! Free values. -/

/-- `DIGEST[0..63] <- unspecified` (R111 line 4), free values from index `n` on. -/
def freeDigest (n : Nat) : Vector Byte 64 := Vector.ofFn fun j : Fin 64 => Config.freeByte (n + j.val)

/-- The free values are used up: the next 64 are others. -/
def State.takeFresh (s : State) : State := s.setFresh (s.fresh + 64)

/-- The block's registers after RST: SEQ is IDLE, every other register unspecified, so a free value
(R180; 10_state.md R29; log 2). The host and the byte source are not the block's: RST leaves them. -/
def State.resetBlock (s : State) : State :=
  { s with
    V := Vector.ofFn fun i : Fin 16 => Config.freeWord (s.fresh + i.val)
    H := Vector.ofFn fun i : Fin 8 => Config.freeWord (s.fresh + 16 + i.val)
    M := Vector.ofFn fun i : Fin 16 => Config.freeWord (s.fresh + 24 + i.val)
    BLK := Vector.ofFn fun j : Fin 128 => Config.freeByte (s.fresh + j.val)
    SEQ := seqWord .idle 0 0
    LAST := Config.freeBit s.fresh
    T := Config.freeWord (s.fresh + 40)
    LEN := Config.freeWord (s.fresh + 41)
    NN := Config.freeByte (s.fresh + 128)
    CAUSE := Config.freeByte (s.fresh + 129)
    DIGEST := freeDigest (s.fresh + 130)
    fresh := s.fresh + 194 }

/-! The mixing primitive. -/

/-- Four of the eight assignments of `mix`: lines 1 to 4 with `x` and the rotations 32 and 24, and again lines 5 to 8
with `y` and the rotations 16 and 63; each line uses the values the earlier ones left (R84). -/
def mixHalf (v : Vector Word 16) (a b c d : Fin 16) (x : Word) (p q : Nat) : Vector Word 16 :=
  let v := v.set a (v[a] + v[b] + x)
  let v := v.set d (rotr64 (v[d] ^^^ v[a]) p)
  let v := v.set c (v[c] + v[d])
  v.set b (rotr64 (v[b] ^^^ v[c]) q)

/-- `mix(v, a, b, c, d, x, y)` (R84). -/
def mix (v : Vector Word 16) (a b c d : Fin 16) (x y : Word) : Vector Word 16 :=
  mixHalf (mixHalf v a b c d x 32 24) a b c d y 16 63

/-- The bytes of the hash state, little-endian in each word, words ascending: byte `j` is
`byte(H[j div 8], j mod 8)` (20_memory.md R45). -/
def serialise (h : Vector Word 8) : List Byte :=
  List.ofFn fun j : Fin 64 => byteOf (h[j.val / 8]'(by omega)) (j.val % 8)

end Sys2Proof.Machine
end

