-- ==== Sys2Proof/Machine/Flags.lean ====
section
/-! DEFINITION. The condition state: the flag LAST and the view STATUS, and nothing else (10_state.md R16, R21).
No arithmetic writes a flag: there is no carry, zero, overflow or sign flag (R16; 40_compression_engine.md R83). -/

namespace Sys2Proof.Machine

/-- `LAST <- b` (R16). -/
def State.setLAST (s : State) (b : Bool) : State := { s with LAST := b }

/-- STATUS, read off a SEQ word: IDLE, DONE and ERROR by their PHASE, BUSY for every other PHASE (R21). -/
def statusOf (w : BitVec 12) : Status :=
  if phaseField w = Phase.idle.code then .idle
  else if phaseField w = Phase.done.code then .done
  else if phaseField w = Phase.error.code then .error
  else .busy

/-- STATUS (R21). -/
def State.status (s : State) : Status := statusOf s.SEQ

/-- The two bits of STATUS (R21). -/
def Status.code : Status → BitVec 2
  | .idle => 0
  | .busy => 1
  | .done => 2
  | .error => 3

end Sys2Proof.Machine
end

