-- ==== Sys2Proof/WellFormed.lean ====
section
/-! DEFINITION. Which operations are inside the contract the spec states for their operands. -/

namespace Sys2Proof

/-- The legal digest lengths, 1..64 (10_state.md R19; 90_conflicts.md C4). -/
abbrev legalLength (nn : BitVec 8) : Prop := 1 ≤ nn.toNat ∧ nn.toNat ≤ 64

/-- START asks for a legal digest length (30_encoding.md R66, R67). Every other operand is legal by its type:
the round of a `Gk` (R61) and `len`, every value of which is legal (10_state.md R18). -/
def Instr.wellFormed : Instr → Bool
  | .start nn _ => decide (legalLength nn)
  | .init | .sel | .loadn | .loadf | .vset | .mdec => true
  | .g0 _ | .g1 _ | .g2 _ | .g3 _ | .g4 _ | .g5 _ | .g6 _ | .g7 _ => true
  | .fold | .emit | .idle | .done | .error => true

end Sys2Proof
end

