-- ==== Sys2Proof/Machine/Command.lean ====
section
/-! DEFINITION. START, the one host command (42_host_interface.md R141, R142, R147). -/

namespace Sys2Proof.Machine

/-- START nn, len (R141). While STATUS is BUSY it is held and changes nothing (R142). Accepted, it writes NN, LEN
and SEQ, and the handshake takes the word off CMD. With `nn` outside 1..64 it is refused (R67; U1; log 9). -/
def execStart (nn : BitVec 8) (len : BitVec 64) (s : State) : Out :=
  if s.status = .busy then .next s
  else if legalLength nn then
    .next ((((s.setNN nn).setLEN len).setCmd none).advance .init 0 0)
  else .refused .digestLengthOutsideContract

end Sys2Proof.Machine
end

