-- ==== Sys2Proof/Machine/Driver.lean ====
section
/-! DEFINITION. The Digest Driver: INIT, SEL, LOADN, LOADF, EMIT (41_digest_driver.md). -/

namespace Sys2Proof.Machine

/-- The hash state INIT leaves for a digest length (R111 lines 1 and 2). -/
def initialHash (nn : BitVec 8) : Vector Word 8 :=
  IV.set 0 (IV[0] ^^^ (parameterConstant ^^^ nn.setWidth 64))

/-- INIT (R111). The whole of DIGEST becomes unspecified: free values (log 3). -/
def execInit (s : State) : Out :=
  .next (((((s.setH (initialHash s.NN)).setT 0).setDIGEST (freeDigest s.fresh)).takeFresh).advance .sel 0 0)

/-- More than 128 bytes remain: `LEN - T > 128`, on integers (R112 line 1; 00_scope.md R6). -/
def moreThanBlockLeft (s : State) : Bool := decide ((s.LEN.toNat : Int) - (s.T.toNat : Int) > 128)

/-- SEL (R112). -/
def execSel (s : State) : Out :=
  .next (s.advance (if moreThanBlockLeft s then .loadn else .loadf) 0 0)

/-- LOADN once its bytes are there (R113 lines 2 to 6): fewer than 128 raise `SourceShort`. -/
def takeBlock (bytes : List Byte) (s : State) : Out :=
  if bytes.length < 128 then .next (s.raise causeShort)
  else .next ((((s.setBLK (blockOf bytes)).setT (s.T + 128)).setLAST false).advance .vset 0 0)

/-- LOADN (R113). -/
def execLoadn (s : State) : Out := memRead s s.T 128 takeBlock

/-- LOADF once its bytes are there (R114 lines 3 to 8): whatever is missing of the 128 is zero. -/
def takeFinalBlock (bytes : List Byte) (s : State) : Out :=
  .next ((((s.setBLK (blockOf bytes)).setT s.LEN).setLAST true).advance .vset 0 0)

/-- LOADF (R114). Line 1 states `0 <= LEN - T <= 128`; outside it, where no run gets (R120), no rule says what the
request is (log 12). -/
def execLoadf (s : State) : Out :=
  if s.T.toNat ≤ s.LEN.toNat ∧ s.LEN.toNat - s.T.toNat ≤ 128 then
    memRead s s.T (s.LEN.toNat - s.T.toNat) takeFinalBlock
  else .fault .finalCountOutOfRange

/-- The first `nn` bytes of the serialised hash state (R116 line 1). -/
def digestBytes (h : Vector Word 8) (nn : BitVec 8) : List Byte := (serialise h).take nn.toNat

/-- EMIT (R116): the digest through MemWrite over bytes that are otherwise unspecified: free values (log 3). -/
def execEmit (s : State) : Out :=
  .next (((s.setDIGEST (memWrite (freeDigest s.fresh) 0 s.NN.toNat (digestBytes s.H s.NN))).takeFresh).advance .done 0 0)

end Sys2Proof.Machine
end

