-- ==== Sys2Proof/Machine/Operands.lean ====
section
/-! DEFINITION. The operand forms: the six implied operands of a mixing micro-operation (30_encoding.md R64;
40_compression_engine.md R86) and the words of a decoded block (R88). -/

namespace Sys2Proof.Machine

/-- The four working-vector slots of a mixing invocation, in the order of `mix`'s parameters (R64). -/
structure Group where
  a : Fin 16
  b : Fin 16
  c : Fin 16
  d : Fin 16
  deriving DecidableEq, Repr

/-- The index groups: invocations 0..3 are the columns, 4..7 the diagonals (R64, R86). -/
def groups : Vector Group 8 :=
  #v[⟨0, 4, 8, 12⟩, ⟨1, 5, 9, 13⟩, ⟨2, 6, 10, 14⟩, ⟨3, 7, 11, 15⟩,
     ⟨0, 5, 10, 15⟩, ⟨1, 6, 11, 12⟩, ⟨2, 7, 8, 13⟩, ⟨3, 4, 9, 14⟩]

/-- The index group of invocation `k`. -/
def group (k : Fin 8) : Group := groups[k]

/-- `x` is `M[SIGMA[r][2k]]` (R64, R89 line 2). -/
def operandX (m : Vector Word 16) (r : Fin 12) (k : Fin 8) : Word :=
  m[(SIGMA[r])[2 * k.val]'(by omega)]

/-- `y` is `M[SIGMA[r][2k+1]]` (R64, R89 line 2). -/
def operandY (m : Vector Word 16) (r : Fin 12) (k : Fin 8) : Word :=
  m[(SIGMA[r])[2 * k.val + 1]'(by omega)]

/-- Invocation `k` of round `r` on a working vector and the message words (R86). -/
def invocation (m : Vector Word 16) (r : Fin 12) (k : Fin 8) (v : Vector Word 16) : Vector Word 16 :=
  mix v (group k).a (group k).b (group k).c (group k).d (operandX m r k) (operandY m r k)

/-- The sixteen little-endian words of a block: `M[i] = le64(BLK[8i], ..., BLK[8i+7])` (R88; 20_memory.md R44). -/
def blockWords (b : Vector Byte 128) : Vector Word 16 :=
  Vector.ofFn fun i : Fin 16 =>
    le64 b[8 * i.val] b[8 * i.val + 1] b[8 * i.val + 2] b[8 * i.val + 3]
      b[8 * i.val + 4] b[8 * i.val + 5] b[8 * i.val + 6] b[8 * i.val + 7]

end Sys2Proof.Machine
end

