-- ==== Sys2Proof/Machine/Engine.lean ====
section
/-! DEFINITION. The Compression Engine: VSET, MDEC, G0 to G7, FOLD (40_compression_engine.md). It reads no memory
and raises no exception (R80). -/

namespace Sys2Proof.Machine

/-- The working vector VSET builds (R87 lines 1 to 4). The counter goes to index 12, the complement to index 14. -/
def workingVector (h : Vector Word 8) (t : Word) (last : Bool) : Vector Word 16 :=
  let v : Vector Word 16 := h ++ IV
  let v := v.set 12 (v[12] ^^^ t)
  if last then v.set 14 (~~~ v[14]) else v

/-- VSET (R87). -/
def execVset (s : State) : Out :=
  .next ((s.setV (workingVector s.H s.T s.LAST)).advance .mdec 0 0)

/-- MDEC (R88). -/
def execMdec (s : State) : Out :=
  .next ((s.setM (blockWords s.BLK)).advance .g 0 0)

/-- The SEQ advance of `Gk r` (R89 line 4). -/
def afterMixing (r : Fin 12) (k : Fin 8) : BitVec 12 :=
  if k.val < 7 then seqWord .g (BitVec.ofNat 4 r.val) (BitVec.ofNat 4 (k.val + 1))
  else if r.val < 11 then seqWord .g (BitVec.ofNat 4 (r.val + 1)) 0
  else seqWord .fold 0 0

/-- The common rule of `Gk r` (R89). -/
def mixStep (k : Fin 8) (r : Fin 12) (s : State) : Out :=
  .next ((s.setV (invocation s.M r k s.V)).setSEQ (afterMixing r k))

/-- G0 r (R93). -/
def execG0 (r : Fin 12) (s : State) : Out := mixStep 0 r s

/-- G1 r (R94). -/
def execG1 (r : Fin 12) (s : State) : Out := mixStep 1 r s

/-- G2 r (R95). -/
def execG2 (r : Fin 12) (s : State) : Out := mixStep 2 r s

/-- G3 r (R96). -/
def execG3 (r : Fin 12) (s : State) : Out := mixStep 3 r s

/-- G4 r (R97). -/
def execG4 (r : Fin 12) (s : State) : Out := mixStep 4 r s

/-- G5 r (R98). -/
def execG5 (r : Fin 12) (s : State) : Out := mixStep 5 r s

/-- G6 r (R99). -/
def execG6 (r : Fin 12) (s : State) : Out := mixStep 6 r s

/-- G7 r (R100). -/
def execG7 (r : Fin 12) (s : State) : Out := mixStep 7 r s

/-- The working vector folded into the hash state (R91 line 1). -/
def foldInto (h : Vector Word 8) (v : Vector Word 16) : Vector Word 8 :=
  Vector.ofFn fun i : Fin 8 => h[i] ^^^ v[i.val] ^^^ v[i.val + 8]

/-- FOLD (R91). -/
def execFold (s : State) : Out :=
  .next ((s.setH (foldInto s.H s.V)).advance (if s.LAST then .emit else .sel) 0 0)

end Sys2Proof.Machine
end

