-- ==== Sys2Proof/Machine/Wait.lean ====
section
/-! DEFINITION. The wait states IDLE, DONE and ERROR: the sequencer executes no micro-operation and changes no
state (41_digest_driver.md R121). What leaves them is START or RST, in `step`. -/

namespace Sys2Proof.Machine

/-- IDLE, the state after reset (R121). -/
def execIdle (s : State) : Out := .next s

/-- DONE, the state after EMIT (R121). -/
def execDone (s : State) : Out := .next s

/-- ERROR, the state after a raised exception (R121; 60_exceptions.md R167: there is no return from it). -/
def execError (s : State) : Out := .next s

end Sys2Proof.Machine
end

