-- ==== Sys2Proof/Machine/Dispatch.lean ====
section
/-! DEFINITION. One arm per operation of 30_encoding.md rule R72. -/

namespace Sys2Proof.Machine

def exec (i : Instr) (s : State) : Host.Outcome State Fault Refusal :=
  match i with
  | .start nn len => Sys2Proof.Machine.execStart nn len s
  | .init => Sys2Proof.Machine.execInit s
  | .sel => Sys2Proof.Machine.execSel s
  | .loadn => Sys2Proof.Machine.execLoadn s
  | .loadf => Sys2Proof.Machine.execLoadf s
  | .vset => Sys2Proof.Machine.execVset s
  | .mdec => Sys2Proof.Machine.execMdec s
  | .g0 r => Sys2Proof.Machine.execG0 r s
  | .g1 r => Sys2Proof.Machine.execG1 r s
  | .g2 r => Sys2Proof.Machine.execG2 r s
  | .g3 r => Sys2Proof.Machine.execG3 r s
  | .g4 r => Sys2Proof.Machine.execG4 r s
  | .g5 r => Sys2Proof.Machine.execG5 r s
  | .g6 r => Sys2Proof.Machine.execG6 r s
  | .g7 r => Sys2Proof.Machine.execG7 r s
  | .fold => Sys2Proof.Machine.execFold s
  | .emit => Sys2Proof.Machine.execEmit s
  | .idle => Sys2Proof.Machine.execIdle s
  | .done => Sys2Proof.Machine.execDone s
  | .error => Sys2Proof.Machine.execError s

end Sys2Proof.Machine
end

