-- ==== Sys2Proof/Machine/HostPort.lean ====
section
/-! DEFINITION. The host's side (42_host_interface.md): what it does between two micro-operations, which command
word the port accepts, which operation runs next, and what the host reads. -/

namespace Sys2Proof.Machine

/-- One act of the host on the ports and on the byte source (R140, R145; log 7). -/
def hostAct (s : State) : HostAct → State
  | .wait => s
  | .present w => { s with cmd := some w }
  | .withdraw => { s with cmd := none }
  | .assertRst => { s with rst := true }
  | .releaseRst => { s with rst := false }
  | .attach msg plan => { s with mem := Memory.ofBytes msg, srcPlan := plan }
  | .poke off b => { s with mem := Memory.write s.mem off.toNat b }

/-- The host does its next act; with none left it does nothing. -/
def hostMove (s : State) : State :=
  match s.host with
  | [] => s
  | act :: rest => hostAct { s with host := rest } act

/-- The command the port accepts now: STATUS is not BUSY and the word on CMD has `op = 0x01` (R142). A word with
another `op` is never accepted and changes nothing (R147). -/
def accepted (s : State) : Option Instr :=
  match s.cmd with
  | none => none
  | some w => if s.status = .busy then none else (decode (.command w)).instr?

/-- The operation that runs next: a command the port accepts, else the word in SEQ, which is the instruction
(10_state.md R15: "fetch" is the identity). -/
def nextOperation (s : State) : Decoded :=
  match decode (.sequencer s.SEQ) with
  | .bad e => .bad e
  | .ok i =>
    match accepted s with
    | some c => .ok c
    | none => .ok i

/-! What the host reads (R143). A read has no side effect, and no value where the spec gives it none (U6; log 8). -/

/-- STATUS, readable at any time (R143). -/
def readStatus (s : State) : BitVec 2 := s.status.code

/-- CAUSE, defined exactly while STATUS is ERROR (R143). -/
def readCause (s : State) : Option (BitVec 8) := if s.status = .error then some s.CAUSE else none

/-- `DIGEST[j]`, defined exactly while STATUS is DONE and for `j < NN` (R143). -/
def readDigest (s : State) (j : Fin 64) : Option Byte :=
  if s.status = .done ∧ j.val < s.NN.toNat then some s.DIGEST[j] else none

/-- `hexdigit(n)`: '0'..'9' are 0x30..0x39, 'a'..'f' are 0x61..0x66 (41_digest_driver.md R117). -/
def hexDigit (n : BitVec 4) : Byte :=
  if n.toNat < 10 then 0x30 + n.setWidth 8 else 0x57 + n.setWidth 8

/-- `HEX[i]`: the high half of `DIGEST[i div 2]` at an even index, its low half at an odd one, defined while STATUS
is DONE for `i < 2*NN` (R117; 10_state.md R23). R23 lets an implementation omit this port: that the block always has
it is a DESIGN CHOICE (log 17). -/
def readHex (s : State) (i : Fin 128) : Option Byte :=
  match readDigest s ⟨i.val / 2, by omega⟩ with
  | none => none
  | some b => some (hexDigit (if i.val % 2 = 0 then b.extractLsb' 4 4 else b.extractLsb' 0 4))

/-! Placing an operation where `step` takes its next one from. -/

/-- CMD and RST are quiet and the host has nothing to do: SEQ alone says what runs next. -/
def State.quiet (s : State) : State := { s with rst := false, cmd := none, host := [] }

/-- The word placed on its port: a format M word in SEQ; a format H word on CMD, with the sequencer in a wait state,
IDLE where it was in none (log 4). -/
def placeCode (s : State) : Code → State
  | .sequencer w => s.quiet.setSEQ w
  | .command w =>
    if s.status = .busy then (s.quiet.setCmd (some w)).advance .idle 0 0 else s.quiet.setCmd (some w)

/-- An opcode-table word placed as `tableCode` reads it; a word that is on no port leaves the state as it is. -/
def placeTableWord (s : State) (nbits w : Nat) : State :=
  match tableCode nbits w with
  | some c => placeCode s c
  | none => s

end Sys2Proof.Machine
end

