-- ==== Sys2Proof/Machine/Cycle.lean ====
section
/-! DEFINITION. The block's move in one step (00_scope.md R9): RST if it is asserted, for it wins over everything
(70_reset_and_hazards.md R181), else one operation. -/

namespace Sys2Proof.Machine

/-- Run what was decoded; a reserved word in SEQ is stuck (30_encoding.md R68; U9; log 11). -/
def runDecoded (d : Decoded) (s : State) : Out :=
  match d with
  | .ok i => exec i s
  | .bad _ => .fault .reservedSequencerWord

/-- The block's move, once the host has made its own. -/
def blockMove (s : State) : Out :=
  if s.rst then .next s.resetBlock else runDecoded (nextOperation s) s

end Sys2Proof.Machine
end

