-- ==== Sys2Proof/Machine/Functions.lean ====
section
/-! DEFINITION. What a compression and a run compute, as functions (40_compression_engine.md R92;
41_digest_driver.md R118, R119). The statements compare the sequencer's runs with them. -/

namespace Sys2Proof.Machine

/-- `ROUND r`: the eight invocations in index order (R90; 30_encoding.md R71). -/
def oneRound (m : Vector Word 16) (r : Fin 12) (v : Vector Word 16) : Vector Word 16 :=
  (List.finRange 8).foldl (fun v k => invocation m r k v) v

/-- The twelve rounds (R89: "Run exactly 12 rounds"). -/
def rounds (m : Vector Word 16) (v : Vector Word 16) : Vector Word 16 :=
  (List.finRange 12).foldl (fun v r => oneRound m r v) v

/-- `compress(h, blk, t, last)` (R92). -/
def compress (h : Vector Word 8) (blk : Vector Byte 128) (t : Word) (last : Bool) : Vector Word 8 :=
  foldInto h (rounds (blockWords blk) (workingVector h t last))

/-- The 128 bytes of a message from offset `t` on, zeros past its end (R118). -/
def blockAt (msg : List Byte) (t : Nat) : Vector Byte 128 := blockOf (msg.drop t)

/-- The loop of R118 over the non-final blocks, with the hash state and the counter it leaves; `fuel` bounds the
number of turns. -/
def absorb (msg : List Byte) : Nat → Vector Word 8 → Nat → Vector Word 8 × Nat
  | 0, h, t => (h, t)
  | fuel + 1, h, t =>
    if msg.length - t > 128 then
      absorb msg fuel (compress h (blockAt msg t) (BitVec.ofNat 64 (t + 128)) false) (t + 128)
    else (h, t)

/-- The hash state at the end of a run on a message (R118). The loop turns less often than the message has bytes. -/
def finalHash (msg : List Byte) (nn : BitVec 8) : Vector Word 8 :=
  let (h, t) := absorb msg msg.length (initialHash nn) 0
  compress h (blockAt msg t) (BitVec.ofNat 64 msg.length) true

/-- `digest(msg, nn)` (R118). -/
def digest (msg : List Byte) (nn : BitVec 8) : List Byte := digestBytes (finalHash msg nn) nn

/-- The number of non-final blocks (R119): 0 for the empty message, else ceil(len / 128) - 1. -/
def nonFinalBlocks (len : Nat) : Nat := (len + 127) / 128 - 1

/-- The number of compressions (R119). -/
def compressions (len : Nat) : Nat := nonFinalBlocks len + 1

/-- The requests of a run that meets no error, in their order (20_memory.md R46). -/
def requestsOfRun (len : Nat) : List Request :=
  (List.range (nonFinalBlocks len)).map (fun i => ⟨BitVec.ofNat 64 (128 * i), 128⟩) ++
    [⟨BitVec.ofNat 64 (128 * nonFinalBlocks len), len - 128 * nonFinalBlocks len⟩]

end Sys2Proof.Machine
end

