-- ==== Sys2Proof/Safety.lean ====
section
/-! DEFINITION. The terms the statements are made in: the invariant that every step keeps, when nothing interferes
with a run, what a byte source that keeps its contract holds, and the relations of two runs. -/

namespace Sys2Proof.Machine

/-! The invariant. -/

/-- What holds at SEL (41_digest_driver.md R120): T is a multiple of 128, at most LEN, and below it unless LEN is 0. -/
def CounterInv (s : State) : Prop :=
  128 ∣ s.T.toNat ∧ s.T.toNat ≤ s.LEN.toNat ∧ (s.T.toNat < s.LEN.toNat ∨ s.LEN.toNat = 0)

/-- What holds from a load to the fold (R115): after LOADF T is LEN, after LOADN it is the bytes so far, a positive
multiple of 128 below LEN. -/
def LoadedInv (s : State) : Prop :=
  if s.LAST then s.T = s.LEN else 128 ∣ s.T.toNat ∧ 0 < s.T.toNat ∧ s.T.toNat < s.LEN.toNat

/-- `DIGEST[0..NN-1]` is the hash state serialised (R116, R121). -/
def DigestInv (s : State) : Prop :=
  ∀ j : Fin 64, j.val < s.NN.toNat → s.DIGEST[j] = byteOf (s.H[j.val / 8]'(by omega)) (j.val % 8)

/-- What holds when an operation is the next of the sequencer. -/
def PhaseInv (s : State) : Instr → Prop
  | .start _ _ => False
  | .idle | .error => True
  | .init => legalLength s.NN
  | .sel => legalLength s.NN ∧ CounterInv s
  | .loadn => legalLength s.NN ∧ CounterInv s ∧ s.T.toNat + 128 < s.LEN.toNat
  | .loadf => legalLength s.NN ∧ CounterInv s ∧ s.LEN.toNat ≤ s.T.toNat + 128
  | .vset | .mdec | .fold => legalLength s.NN ∧ LoadedInv s
  | .g0 _ | .g1 _ | .g2 _ | .g3 _ | .g4 _ | .g5 _ | .g6 _ | .g7 _ => legalLength s.NN ∧ LoadedInv s
  | .emit => legalLength s.NN ∧ s.LAST = true ∧ s.T = s.LEN
  | .done => legalLength s.NN ∧ DigestInv s

/-- The invariant of the machine: SEQ is one of the 107 legal words (30_encoding.md R68; 10_state.md R15), what its
operation relies on holds (R120), and the source's contents are in canonical form. -/
def Inv (s : State) : Prop :=
  (∃ i, decode (.sequencer s.SEQ) = .ok i ∧ PhaseInv s i) ∧ Memory.wf s.mem = true

/-! Runs. -/

/-- `k` steps of the machine, stopping at a fault or a refusal. -/
def runSteps (k : Nat) (s : State) : Out := Host.Core.run Sys2Proof.core k s

/-- SEQ is one of the three wait words (30_encoding.md R63). -/
abbrev Waiting (s : State) : Prop := s.SEQ = 0x000#12 ∨ s.SEQ = 0xA00#12 ∨ s.SEQ = 0xB00#12

/-- Nothing interferes: RST is released and the host only waits. -/
abbrev Undisturbed (s : State) : Prop := s.rst = false ∧ s.host = []

/-- The host presents START nn, len (30_encoding.md R66). -/
abbrev Presents (s : State) (nn : BitVec 8) (len : BitVec 64) : Prop := s.cmd = some (commandWord opStart nn len)

/-- The byte source holds the message: byte `j` of it at offset `j` (20_memory.md R41). -/
def HoldsMessage (s : State) (msg : List Byte) : Prop := ∀ j, j < msg.length → Memory.read s.mem j = msg[j]?

/-- What the byte source answers to the request for `n` bytes that follows `i` others, the first of them at offset
`t`: each one that comes before takes one of its choices and moves the offset on by 128 (20_memory.md R46; log 5). -/
def answerTo (s : State) (t i n : Nat) : Answer :=
  sourceAnswer { s with srcPlan := s.srcPlan.drop i } (BitVec.ofNat 64 (t + 128 * i)) n

/-- Of the requests from offset `t` on, the first `i` are answered with the 128 bytes asked for. -/
def AnsweredInFull (s : State) (t i : Nat) : Prop :=
  ∀ j, j < i → ∃ bytes, answerTo s t j 128 = .ok bytes ∧ bytes.length = 128

/-- The offset of the next request of the run in progress, if it makes one more: INIT sets the counter to 0, and
after LOADF there is none (R46; 41_digest_driver.md R111, R114). -/
def nextOffset (s : State) : Option Nat :=
  if s.SEQ = 0x100#12 then some 0
  else if 0x5 ≤ (phaseField s.SEQ).toNat ∧ s.LAST = true then none
  else some s.T.toNat

/-- An answer the source contract allows to a request for `n` bytes: at most `n` bytes, or an error (R41). -/
def AllowedAnswer (n : Nat) : Answer → Prop
  | .ok bytes => bytes.length ≤ n
  | .err _ => True
  | .silent => False

/-- The byte source answers every request the run in progress goes on to make, in any way R41 allows. A request
after the next one is made where LEN reaches past its offset and all before it are answered in full (R46, R113). -/
def AnswersEvery (s : State) : Prop :=
  ∀ t, nextOffset s = some t → ∀ i, (i = 0 ∨ t + 128 * i < s.LEN.toNat) → AnsweredInFull s t i →
    AllowedAnswer (min 128 (s.LEN.toNat - (t + 128 * i))) (answerTo s t i (min 128 (s.LEN.toNat - (t + 128 * i))))

/-! The mixing primitive, as a relation of the vector before and after. -/

/-- The eight lines of `mix` (40_compression_engine.md R84) as eight numbered values of the four slots, every other
slot unchanged. -/
def MixResult (v w : Vector Word 16) (a b c d : Fin 16) (x y : Word) : Prop :=
  let a1 := v[a] + v[b] + x
  let d1 := rotr64 (v[d] ^^^ a1) 32
  let c1 := v[c] + d1
  let b1 := rotr64 (v[b] ^^^ c1) 24
  let a2 := a1 + b1 + y
  let d2 := rotr64 (d1 ^^^ a2) 16
  let c2 := c1 + d2
  let b2 := rotr64 (b1 ^^^ c2) 63
  w[a] = a2 ∧ w[b] = b2 ∧ w[c] = c2 ∧ w[d] = d2 ∧
    ∀ i : Fin 16, i ≠ a → i ≠ b → i ≠ c → i ≠ d → w[i] = v[i]

/-- The eight mixing micro-operations. -/
def isMixing : Instr → Bool
  | .g0 _ | .g1 _ | .g2 _ | .g3 _ | .g4 _ | .g5 _ | .g6 _ | .g7 _ => true
  | .start _ _ | .init | .sel | .loadn | .loadf | .vset | .mdec | .fold | .emit | .idle | .done | .error => false

/-! Two runs beside each other. -/

/-- An outcome with another word on CMD in its next state. -/
def withCmd (c : Option (BitVec 80)) : Out → Out
  | .next s => .next (s.setCmd c)
  | .fault f => .fault f
  | .refused r => .refused r

/-- Two outcomes of the same kind: two next states in a relation, or the same stop. -/
def SameOutcome (R : State → State → Prop) : Out → Out → Prop
  | .next s, .next t => R s t
  | .fault f, .fault g => f = g
  | .refused f, .refused g => f = g
  | _, _ => False

/-- The registers of the block (10_state.md R10) are the same in both. -/
def SameRegisters (s t : State) : Prop :=
  s.V = t.V ∧ s.H = t.H ∧ s.M = t.M ∧ s.BLK = t.BLK ∧ s.SEQ = t.SEQ ∧ s.LAST = t.LAST ∧ s.T = t.T ∧ s.LEN = t.LEN ∧
  s.NN = t.NN ∧ s.CAUSE = t.CAUSE ∧ s.DIGEST = t.DIGEST

/-- Two states that differ at most in message data: the contents of V, H, M, BLK and DIGEST, and the bytes (not the
offsets) the byte source holds (20_memory.md R55). -/
def SameControl (s t : State) : Prop :=
  s.SEQ = t.SEQ ∧ s.LAST = t.LAST ∧ s.T = t.T ∧ s.LEN = t.LEN ∧ s.NN = t.NN ∧ s.CAUSE = t.CAUSE ∧
  s.srcPlan = t.srcPlan ∧ s.requests = t.requests ∧ s.rst = t.rst ∧ s.cmd = t.cmd ∧ s.host = t.host ∧
  s.fresh = t.fresh ∧ s.mem.map Prod.fst = t.mem.map Prod.fst

/-- Everything the host can read is the same in both (10_state.md R25). -/
def SameReads (s t : State) : Prop :=
  readStatus s = readStatus t ∧ readCause s = readCause t ∧
  (∀ j, readDigest s j = readDigest t j) ∧ (∀ i, readHex s i = readHex t i)

end Sys2Proof.Machine
end

