-- ==== Sys2Proof/Certificates/Slice0/Obligations.lean ====
section
/-! DEFINITION. The statements for the provers, each with the rule of spec/ it formalises. No statement rests on a
value the model chose for a register (logs 1 to 3). Where a statement says how the model shows the host or the byte
source, or how it stops, its docstring names the log entry. -/

open Sys2Proof Sys2Proof.Machine

/-! Encoding (30_encoding.md). -/

/-- Every operation, with every operand, decodes from its own word (R61, R62, R63, R66). -/
def Obligations.DecodeOfEncodeIsIdentity : Prop :=
  ∀ i : Instr, decode (encode i) = .ok i

/-- A word that decodes is the word of what it decodes to: every legal word has one meaning (R61, R63, R66). -/
def Obligations.EncodeOfDecodeIsIdentity : Prop :=
  ∀ (c : Code) (i : Instr), decode c = .ok i → encode i = c

/-- The 96 mixing words are 0x700 + 16r + k, the other words have R = K = 0, and 107 words are legal (R63). -/
def Obligations.LegalSequencerWords : Prop :=
  (∀ r : Fin 12,
    decode (.sequencer (BitVec.ofNat 12 (0x700 + 16 * r.val + 0))) = .ok (.g0 r) ∧
    decode (.sequencer (BitVec.ofNat 12 (0x700 + 16 * r.val + 1))) = .ok (.g1 r) ∧
    decode (.sequencer (BitVec.ofNat 12 (0x700 + 16 * r.val + 2))) = .ok (.g2 r) ∧
    decode (.sequencer (BitVec.ofNat 12 (0x700 + 16 * r.val + 3))) = .ok (.g3 r) ∧
    decode (.sequencer (BitVec.ofNat 12 (0x700 + 16 * r.val + 4))) = .ok (.g4 r) ∧
    decode (.sequencer (BitVec.ofNat 12 (0x700 + 16 * r.val + 5))) = .ok (.g5 r) ∧
    decode (.sequencer (BitVec.ofNat 12 (0x700 + 16 * r.val + 6))) = .ok (.g6 r) ∧
    decode (.sequencer (BitVec.ofNat 12 (0x700 + 16 * r.val + 7))) = .ok (.g7 r)) ∧
  decode (.sequencer 0x000#12) = .ok .idle ∧ decode (.sequencer 0x100#12) = .ok .init ∧
  decode (.sequencer 0x200#12) = .ok .sel ∧ decode (.sequencer 0x300#12) = .ok .loadn ∧
  decode (.sequencer 0x400#12) = .ok .loadf ∧ decode (.sequencer 0x500#12) = .ok .vset ∧
  decode (.sequencer 0x600#12) = .ok .mdec ∧ decode (.sequencer 0x800#12) = .ok .fold ∧
  decode (.sequencer 0x900#12) = .ok .emit ∧ decode (.sequencer 0xA00#12) = .ok .done ∧
  decode (.sequencer 0xB00#12) = .ok .error ∧
  (List.range 4096).countP (fun n => (decode (.sequencer (BitVec.ofNat 12 n))).instr?.isSome) = 107

/-- A reserved format M word is rejected, by the reason it is reserved for (R68). -/
def Obligations.ReservedSequencerWordsAreRejected : Prop :=
  ∀ w : BitVec 12,
    (0xC ≤ (phaseField w).toNat → decode (.sequencer w) = .bad .reservedPhase) ∧
    (phaseField w = 0x7 → 11 < (roundField w).toNat → decode (.sequencer w) = .bad .reservedRound) ∧
    (phaseField w = 0x7 → (roundField w).toNat ≤ 11 → 7 < (invocationField w).toNat →
      decode (.sequencer w) = .bad .reservedInvocation) ∧
    (phaseField w ≠ 0x7 → (phaseField w).toNat ≤ 0xB → ¬ (roundField w = 0 ∧ invocationField w = 0) →
      decode (.sequencer w) = .bad .nonzeroOperand)

/-- The command word is {op, nn, len}, and START's op is 0x01 (R66). -/
def Obligations.CommandWordFields : Prop :=
  (∀ (op nn : BitVec 8) (len : BitVec 64),
    opField (commandWord op nn len) = op ∧ nnField (commandWord op nn len) = nn ∧
    lenField (commandWord op nn len) = len ∧
    (commandWord op nn len).toNat = op.toNat * 2 ^ 72 + nn.toNat * 2 ^ 64 + len.toNat) ∧
  (∀ w : BitVec 80, commandWord (opField w) (nnField w) (lenField w) = w) ∧
  (∀ w : BitVec 80, (∃ i, decode (.command w) = .ok i) ↔ opField w = 0x01) ∧
  (∀ (nn : BitVec 8) (len : BitVec 64),
    (Instr.start nn len).wellFormed = true ↔ 1 ≤ nn.toNat ∧ nn.toNat ≤ 64) ∧
  commandWord 0x01 64 3 = 0x01400000000000000003#80

/-- Words the spec itself prints decode to what it says they are (R63, R66, 95_test_vectors.md section 3). -/
def Obligations.PrintedWordsDecode : Prop :=
  decode (.sequencer 0x735#12) = .ok (.g5 3) ∧ decode (.sequencer 0x7B7#12) = .ok (.g7 11) ∧
  decode (.sequencer 0x793#12) = .ok (.g3 9) ∧ decode (.sequencer 0x747#12) = .ok (.g7 4) ∧
  decode (.sequencer 0x500#12) = .ok .vset ∧ decode (.sequencer 0x900#12) = .ok .emit ∧
  decode (.command 0x01400000000000000003#80) = .ok (.start 64 3) ∧
  decode (.command 0x01200000000000000081#80) = .ok (.start 32 129)

/-! The step. -/

/-- A step is exec of the decoded instruction, with what the model's step adds around it: first the host's move, then
the operation that is next, the command on CMD if the port accepts it, else the word in SEQ (10_state.md R15). That a
step begins with one act of the host, and that accepting START is a step of its own, before the one that runs INIT,
are the model's choices (logs 7 and 14), not rules of the spec. A word with a reserved op on CMD is left to
`ReservedCommandIsNeverAccepted`. -/
def Obligations.StepRunsDecodedOperation : Prop :=
  ∀ (s : State) (i : Instr), (hostMove s).rst = false → decode (.sequencer (hostMove s).SEQ) = .ok i →
    ((hostMove s).status = .busy ∨ (hostMove s).cmd = none → step s = exec i (hostMove s)) ∧
    (∀ w c, (hostMove s).status ≠ .busy → (hostMove s).cmd = some w → decode (.command w) = .ok c →
      step s = exec c (hostMove s)) ∧
    (s.host = [] → hostMove s = s)

/-- RST wins over whatever else is there: the step leaves SEQ in IDLE and accepts nothing (70_reset_and_hazards.md R180,
R181). Of the other registers it says nothing (R29). That the host and the byte source are as they were is the model's
choice (log 2). -/
def Obligations.ResetWinsOverEverything : Prop :=
  ∀ s : State, (hostMove s).rst = true →
    ∃ t, step s = .next t ∧ t.SEQ = 0x000#12 ∧ t.status = .idle ∧ t.cmd = (hostMove s).cmd ∧
      t.mem = (hostMove s).mem ∧ t.srcPlan = (hostMove s).srcPlan ∧ t.requests = (hostMove s).requests ∧
      t.rst = true ∧ t.host = (hostMove s).host

/-- An undisturbed block in a wait state that accepts no command stays exactly as it is, for any number of steps, from
whatever state (41_digest_driver.md R121); the state after reset is one such, in IDLE (10_state.md R29). That a wait
takes steps of its own is the model's choice (log 14). -/
def Obligations.UndisturbedBlockWaits : Prop :=
  (∀ s : State, Undisturbed s → Waiting s → accepted s = none →
    step s = .next s ∧ ∀ k, runSteps k s = .next s) ∧
  State.reset.SEQ = 0x000#12 ∧ readStatus State.reset = 0 ∧ Undisturbed State.reset ∧ accepted State.reset = none

/-- A reserved word in SEQ is stuck (30_encoding.md R68; 93_implementation_defined.md U9; log 11). -/
def Obligations.ReservedWordIsStuck : Prop :=
  ∀ (s : State) (e : DecodeError), (hostMove s).rst = false → decode (.sequencer s.SEQ) = .bad e →
    step s = .fault .reservedSequencerWord

/-! START (42_host_interface.md). -/

/-- START writes NN, LEN and SEQ and nothing else; STATUS is BUSY from then on, and the digest or cause of the run
before is gone; it is accepted only while STATUS is not BUSY (R141). What becomes of the word on CMD is not said here. -/
def Obligations.StartBeginsARun : Prop :=
  ∀ (s : State) (nn : BitVec 8) (len : BitVec 64),
    decode (.command (commandWord 0x01 nn len)) = .ok (.start nn len) ∧
    (s.status ≠ .busy → legalLength nn →
      ∃ t, exec (.start nn len) s = .next t ∧
        t = { s with NN := nn, LEN := len, SEQ := 0x100#12, cmd := t.cmd } ∧ readStatus t = 1 ∧
        readCause t = none ∧ ∀ j : Fin 64, readDigest t j = none) ∧
    (s.status = .busy → exec (.start nn len) s = .next s)

/-- The port accepts a word exactly when STATUS is not BUSY and `op = 0x01`; while BUSY the word presented, whatever
it is, stays on CMD and has no effect on the run (R142). Accepting a word takes it off CMD (the model's choice,
log 7). -/
def Obligations.AcceptanceOfCommands : Prop :=
  (∀ (s : State) (i : Instr), accepted s = some i ↔
    s.status ≠ .busy ∧ ∃ w, s.cmd = some w ∧ opField w = 0x01 ∧ i = .start (nnField w) (lenField w)) ∧
  (∀ (s : State) (c : Option (BitVec 80)), s.host = [] → s.rst = false → s.status = .busy →
    step { s with cmd := c } = withCmd c (step s)) ∧
  (∀ (s t : State) (i : Instr), accepted s = some i → exec i s = .next t → t.cmd = none)

/-- A command word whose op is not 0x01 is never accepted and changes nothing: the step is what it would be without
it, and in a wait state nothing happens (R147). -/
def Obligations.ReservedCommandIsNeverAccepted : Prop :=
  ∀ (s : State) (w : BitVec 80), (hostMove s).cmd = some w → opField w ≠ 0x01 →
    accepted (hostMove s) = none ∧
    ((hostMove s).rst = false → ∀ i, decode (.sequencer (hostMove s).SEQ) = .ok i → step s = exec i (hostMove s)) ∧
    ((hostMove s).rst = false → Waiting (hostMove s) → step s = .next (hostMove s))

/-- START with `nn` outside 1..64, when it would be accepted, is refused (30_encoding.md R67;
93_implementation_defined.md U1; log 9). -/
def Obligations.IllegalDigestLengthIsRefused : Prop :=
  ∀ (s : State) (nn : BitVec 8) (len : BitVec 64), s.status ≠ .busy → ¬ legalLength nn →
    exec (.start nn len) s = .refused .digestLengthOutsideContract

/-! The Digest Driver (41_digest_driver.md). -/

/-- INIT: the hash state from IV and the parameter word, the counter 0, on to SEL (R111). DIGEST becomes unspecified:
the statement says nothing of its bytes, nor of the model's counter of free values. -/
def Obligations.InitSetsHashStateAndCounter : Prop :=
  ∀ s : State, ∃ t, exec .init s = .next t ∧
    t.H[0] = IV[0] ^^^ (0x0000000001010000#64 ^^^ s.NN.setWidth 64) ∧
    (∀ i : Fin 8, i.val ≠ 0 → t.H[i] = IV[i]) ∧ t.T = 0 ∧
    t = { s with H := t.H, T := t.T, DIGEST := t.DIGEST, fresh := t.fresh, SEQ := 0x200#12 }

/-- SEL: LOADN when more than 128 bytes remain, else LOADF, and nothing but SEQ changes (R112). -/
def Obligations.SelComparesWhatRemains : Prop :=
  ∀ s : State, exec .sel s =
    .next { s with SEQ := if s.T.toNat + 128 < s.LEN.toNat then 0x300#12 else 0x400#12 }

/-- LOADN: 128 bytes answered to the request (T, 128) become BLK, T is 128 more (wrapping), LAST is 0, on to VSET; an
error or a short answer is taken as an exception with BLK, T and LAST unchanged (R113). What becomes of the model's
source plan and record of requests is said in `LoadsMakeOneRequest`. -/
def Obligations.LoadnLoadsANonFinalBlock : Prop :=
  ∀ s : State,
    (∀ bytes, sourceAnswer s s.T 128 = .ok bytes → bytes.length = 128 →
      ∃ t, exec .loadn s = .next t ∧ (∀ j : Fin 128, bytes[j.val]? = some t.BLK[j]) ∧
        t.T.toNat = (s.T.toNat + 128) % 2 ^ 64 ∧
        t = { s with BLK := t.BLK, T := t.T, LAST := false, SEQ := 0x500#12,
                     srcPlan := t.srcPlan, requests := t.requests }) ∧
    (∀ bytes, sourceAnswer s s.T 128 = .ok bytes → bytes.length < 128 →
      ∃ t, exec .loadn s = .next t ∧
        t = { s with CAUSE := 3, SEQ := 0xB00#12, srcPlan := t.srcPlan, requests := t.requests }) ∧
    (∀ code, sourceAnswer s s.T 128 = .err code →
      ∃ t, exec .loadn s = .next t ∧
        t = { s with CAUSE := code, SEQ := 0xB00#12, srcPlan := t.srcPlan, requests := t.requests })

/-- LOADF: the bytes answered to the request (T, LEN - T), zero padded to 128, become BLK, T is LEN, LAST is 1, on to
VSET; an error is taken as an exception with BLK, T and LAST unchanged; a short answer is none (R114, whose line 1 has
LEN - T in 0..128). What becomes of the source plan and the record of requests is said in `LoadsMakeOneRequest`. -/
def Obligations.LoadfLoadsTheFinalBlock : Prop :=
  ∀ s : State, s.T.toNat ≤ s.LEN.toNat → s.LEN.toNat - s.T.toNat ≤ 128 →
    (∀ bytes, sourceAnswer s s.T (s.LEN.toNat - s.T.toNat) = .ok bytes →
      bytes.length ≤ s.LEN.toNat - s.T.toNat →
      ∃ t, exec .loadf s = .next t ∧
        (∀ j : Fin 128, t.BLK[j] = if h : j.val < bytes.length then bytes[j.val] else 0) ∧
        t = { s with BLK := t.BLK, T := s.LEN, LAST := true, SEQ := 0x500#12,
                     srcPlan := t.srcPlan, requests := t.requests }) ∧
    (∀ code, sourceAnswer s s.T (s.LEN.toNat - s.T.toNat) = .err code →
      ∃ t, exec .loadf s = .next t ∧
        t = { s with CAUSE := code, SEQ := 0xB00#12, srcPlan := t.srcPlan, requests := t.requests })

/-- A load makes one request, of offset T, and none other: answered, it is recorded once and the source goes on to its
next choice; not answered, the load changes nothing (20_memory.md R42, R46, R49, R52; logs 5 and 6). -/
def Obligations.LoadsMakeOneRequest : Prop :=
  ∀ s t : State,
    (exec .loadn s = .next t →
      if sourceAnswer s s.T 128 = .silent then t = s
      else t.srcPlan = s.srcPlan.tail ∧ t.requests = s.requests ++ [⟨s.T, 128⟩]) ∧
    (exec .loadf s = .next t →
      if sourceAnswer s s.T (s.LEN.toNat - s.T.toNat) = .silent then t = s
      else t.srcPlan = s.srcPlan.tail ∧ t.requests = s.requests ++ [⟨s.T, s.LEN.toNat - s.T.toNat⟩])

/-- LOADF where `LEN - T` is outside 0..128, which the invariant excludes, stops (R114 line 1, R120; log 12). -/
def Obligations.FinalCountOutsideRangeStops : Prop :=
  ∀ s : State, ¬ (s.T.toNat ≤ s.LEN.toNat ∧ s.LEN.toNat - s.T.toNat ≤ 128) →
    exec .loadf s = .fault .finalCountOutOfRange

/-- An answer of more bytes than asked for is no answer of the model: both loads refuse it (20_memory.md R41;
93_implementation_defined.md U13; log 10). -/
def Obligations.OverlongAnswerIsRefused : Prop :=
  ∀ (s : State) (bytes : List Byte),
    (sourceAnswer s s.T 128 = .ok bytes → 128 < bytes.length → exec .loadn s = .refused .answerLongerThanAsked) ∧
    (s.T.toNat ≤ s.LEN.toNat → s.LEN.toNat - s.T.toNat ≤ 128 →
      sourceAnswer s s.T (s.LEN.toNat - s.T.toNat) = .ok bytes → s.LEN.toNat - s.T.toNat < bytes.length →
      exec .loadf s = .refused .answerLongerThanAsked)

/-- A source that holds a message and serves answers a request inside it with exactly the bytes asked for, the first
of them the one at the offset (20_memory.md R42). That a source with `serve` as its next choice, or with no choice
left, answers from what it holds is the model's choice (log 5): R41 lets any request fail. -/
def Obligations.SourceServesItsMessage : Prop :=
  ∀ (s : State) (msg : List Byte) (off n : Nat), HoldsMessage s msg → off + n ≤ msg.length → off < 2 ^ 64 →
    (s.srcPlan = [] ∨ s.srcPlan.head? = some .serve) →
    sourceAnswer s (BitVec.ofNat 64 off) n = .ok ((msg.drop off).take n)

/-- A source that never answers leaves the run in its load for ever, BUSY (20_memory.md R52). That the load is tried
again at each step with nothing at all changed is inferred, and that `hang` stays the source's choice until the host
attaches another source is the model's choice (log 16). -/
def Obligations.SilentSourceHangsTheRun : Prop :=
  ∀ (s : State) (rest : List SrcAct) (k : Nat), Undisturbed s → s.srcPlan = .hang :: rest →
    (s.SEQ = 0x300#12 ∨
      (s.SEQ = 0x400#12 ∧ s.T.toNat ≤ s.LEN.toNat ∧ s.LEN.toNat - s.T.toNat ≤ 128)) →
    runSteps k s = .next s ∧ readStatus s = 1

/-- EMIT: the first NN bytes of the hash state, little-endian in each word, words ascending; on to DONE (R116). Of
the bytes from NN on, and of the model's counter of free values, it says nothing. -/
def Obligations.EmitSerialisesTheHashState : Prop :=
  ∀ s : State, ∃ t, exec .emit s = .next t ∧
    (∀ j : Fin 64, j.val < s.NN.toNat → t.DIGEST[j] = (s.H[j.val / 8]'(by omega)).extractLsb' (8 * (j.val % 8)) 8) ∧
    t = { s with DIGEST := t.DIGEST, fresh := t.fresh, SEQ := 0xA00#12 }

/-- The length of a digest is the length asked for (R116; 95_test_vectors.md section 1). -/
def Obligations.DigestHasTheLengthAsked : Prop :=
  ∀ (msg : List Byte) (nn : BitVec 8), legalLength nn → (digest msg nn).length = nn.toNat

/-- The block count (R119). -/
def Obligations.BlockCount : Prop :=
  (∀ len : Nat, nonFinalBlocks len = (if len = 0 then 0 else ⌈(len : ℚ) / 128⌉₊ - 1) ∧
    compressions len = max 1 ⌈(len : ℚ) / 128⌉₊ ∧
    (len = 0 → len - 128 * nonFinalBlocks len = 0) ∧
    (len ≠ 0 → 128 * nonFinalBlocks len < len ∧ len - 128 * nonFinalBlocks len ≤ 128)) ∧
  nonFinalBlocks 0 = 0 ∧ nonFinalBlocks 1 = 0 ∧ nonFinalBlocks 127 = 0 ∧ nonFinalBlocks 128 = 0 ∧
  nonFinalBlocks 129 = 1 ∧ nonFinalBlocks 256 = 1

/-- The wait states execute nothing and change no state; a step in one, with no command accepted and RST released, is
only the host's move (R121). -/
def Obligations.WaitStatesChangeNothing : Prop :=
  (∀ s : State, exec .idle s = .next s ∧ exec .done s = .next s ∧ exec .error s = .next s) ∧
  (∀ s : State, (hostMove s).rst = false → Waiting (hostMove s) → accepted (hostMove s) = none →
    step s = .next (hostMove s))

/-! The Compression Engine (40_compression_engine.md). -/

/-- The rotation: bit `i` of the result is bit `(i + n) mod 64` of the argument (00_scope.md R6). -/
def Obligations.RotationMovesBits : Prop :=
  ∀ (a : Word) (n i : Nat), 1 ≤ n → n ≤ 63 → i < 64 →
    (rotr64 a n).getLsbD i = a.getLsbD ((i + n) % 64) ∧
    (rotr64 a n).toNat = ((a.toNat >>> n) ||| (a.toNat <<< (64 - n))) % 2 ^ 64

/-- VSET: H in the first eight slots, IV in the last eight, slot 12 exclusive-ored with T, slot 14 complemented when
LAST is 1; on to MDEC (R87). -/
def Obligations.VsetBuildsTheWorkingVector : Prop :=
  ∀ s : State, ∃ t, exec .vset s = .next t ∧
    (∀ i : Fin 8, t.V[i.val] = s.H[i]) ∧
    (∀ i : Fin 8, i.val ≠ 4 → i.val ≠ 6 → t.V[8 + i.val] = IV[i]) ∧
    t.V[12] = IV[4] ^^^ s.T ∧ t.V[14] = (if s.LAST then ~~~ IV[6] else IV[6]) ∧
    t = { s with V := t.V, SEQ := 0x600#12 }

/-- MDEC: byte `8i + j` of the block is byte `j` of message word `i`, least significant first; on to G0 0 (R88). -/
def Obligations.MdecDecodesLittleEndian : Prop :=
  ∀ s : State, ∃ t, exec .mdec s = .next t ∧
    (∀ (i : Fin 16) (j : Fin 8), t.M[i].extractLsb' (8 * j.val) 8 = s.BLK[8 * i.val + j.val]) ∧
    t = { s with M := t.M, SEQ := 0x700#12 }

/-- The column micro-operations G0 to G3 of a round: each mixes its four slots with its two message words and goes
on to the next (R93 to R96). -/
def Obligations.ColumnMixings : Prop :=
  ∀ (s : State) (r : Fin 12),
    (∃ t, exec (.g0 r) s = .next t ∧ MixResult s.V t.V 0 4 8 12 s.M[SIGMA[r][0]] s.M[SIGMA[r][1]] ∧
      t = { s with V := t.V, SEQ := BitVec.ofNat 12 (0x701 + 16 * r.val) }) ∧
    (∃ t, exec (.g1 r) s = .next t ∧ MixResult s.V t.V 1 5 9 13 s.M[SIGMA[r][2]] s.M[SIGMA[r][3]] ∧
      t = { s with V := t.V, SEQ := BitVec.ofNat 12 (0x702 + 16 * r.val) }) ∧
    (∃ t, exec (.g2 r) s = .next t ∧ MixResult s.V t.V 2 6 10 14 s.M[SIGMA[r][4]] s.M[SIGMA[r][5]] ∧
      t = { s with V := t.V, SEQ := BitVec.ofNat 12 (0x703 + 16 * r.val) }) ∧
    (∃ t, exec (.g3 r) s = .next t ∧ MixResult s.V t.V 3 7 11 15 s.M[SIGMA[r][6]] s.M[SIGMA[r][7]] ∧
      t = { s with V := t.V, SEQ := BitVec.ofNat 12 (0x704 + 16 * r.val) })

/-- The diagonal micro-operations G4 to G6 of a round (R97 to R99). -/
def Obligations.DiagonalMixings : Prop :=
  ∀ (s : State) (r : Fin 12),
    (∃ t, exec (.g4 r) s = .next t ∧ MixResult s.V t.V 0 5 10 15 s.M[SIGMA[r][8]] s.M[SIGMA[r][9]] ∧
      t = { s with V := t.V, SEQ := BitVec.ofNat 12 (0x705 + 16 * r.val) }) ∧
    (∃ t, exec (.g5 r) s = .next t ∧ MixResult s.V t.V 1 6 11 12 s.M[SIGMA[r][10]] s.M[SIGMA[r][11]] ∧
      t = { s with V := t.V, SEQ := BitVec.ofNat 12 (0x706 + 16 * r.val) }) ∧
    (∃ t, exec (.g6 r) s = .next t ∧ MixResult s.V t.V 2 7 8 13 s.M[SIGMA[r][12]] s.M[SIGMA[r][13]] ∧
      t = { s with V := t.V, SEQ := BitVec.ofNat 12 (0x707 + 16 * r.val) })

/-- G7, the last micro-operation of a round: its successor is G0 of the next round, or FOLD after round 11 (R100). -/
def Obligations.LastMixingOfARound : Prop :=
  ∀ (s : State) (r : Fin 12), ∃ t, exec (.g7 r) s = .next t ∧
    MixResult s.V t.V 3 4 9 14 s.M[SIGMA[r][14]] s.M[SIGMA[r][15]] ∧
    t = { s with V := t.V, SEQ := if r.val < 11 then BitVec.ofNat 12 (0x710 + 16 * r.val) else 0x800#12 }

/-- The column invocations of a round commute with each other, and so do the diagonal ones (R90). -/
def Obligations.InvocationsOfAKindCommute : Prop :=
  ∀ (m v : Vector Word 16) (r : Fin 12) (k l : Fin 8), (k.val < 4 ↔ l.val < 4) →
    invocation m r k (invocation m r l v) = invocation m r l (invocation m r k v)

/-- The four column groups have each slot once, and so have the four diagonal groups (R86). -/
def Obligations.GroupsPartitionTheSlots : Prop :=
  ∀ i : Fin 16,
    ([0, 1, 2, 3].flatMap fun k : Fin 8 => [(group k).a, (group k).b, (group k).c, (group k).d]).count i = 1 ∧
    ([4, 5, 6, 7].flatMap fun k : Fin 8 => [(group k).a, (group k).b, (group k).c, (group k).d]).count i = 1

/-- Each row of SIGMA has each index once; rows 10 and 11 repeat rows 0 and 1 (R82). -/
def Obligations.SigmaRowsArePermutations : Prop :=
  (∀ (r : Fin 12) (i : Fin 16), SIGMA[r].toList.count i = 1) ∧ SIGMA[10] = SIGMA[0] ∧ SIGMA[11] = SIGMA[1]

/-- FOLD: each word of H exclusive-ored with the two words of V; on to EMIT after the final block, else to SEL
(R91). -/
def Obligations.FoldUpdatesTheHashState : Prop :=
  ∀ s : State, ∃ t, exec .fold s = .next t ∧
    (∀ i : Fin 8, t.H[i] = s.H[i] ^^^ s.V[i.val] ^^^ s.V[i.val + 8]) ∧
    t = { s with H := t.H, SEQ := if s.LAST then 0x900#12 else 0x200#12 }

/-- A compression: the 99 micro-operations from VSET change the state by exactly H <- compress(H, BLK, T, LAST), with
V and M left as scratch, and end at EMIT or SEL; a command presented meanwhile is held (R92). -/
def Obligations.CompressionComputesCompress : Prop :=
  ∀ s : State, Undisturbed s → s.SEQ = 0x500#12 →
    ∃ t, runSteps 99 s = .next t ∧ t.H = compress s.H s.BLK s.T s.LAST ∧
      t = { s with H := t.H, V := t.V, M := t.M, SEQ := if s.LAST then 0x900#12 else 0x200#12 }

/-! What the host reads (42_host_interface.md, 10_state.md). -/

/-- STATUS is 0, 2, 3 in IDLE, DONE, ERROR by their PHASE, and 1 in every other phase (10_state.md R21). -/
def Obligations.StatusIsAViewOfPhase : Prop :=
  ∀ s : State,
    (phaseField s.SEQ = 0x0 → readStatus s = 0) ∧ (phaseField s.SEQ = 0xA → readStatus s = 2) ∧
    (phaseField s.SEQ = 0xB → readStatus s = 3) ∧
    (phaseField s.SEQ ≠ 0x0 → phaseField s.SEQ ≠ 0xA → phaseField s.SEQ ≠ 0xB → readStatus s = 1)

/-- DIGEST and HEX are defined exactly while STATUS is DONE, for the bytes below NN; CAUSE exactly while STATUS is
ERROR (R143). A read without a value is none (log 8); that the block has the HEX port is the model's choice
(log 17). -/
def Obligations.HostReadsAreDefinedExactly : Prop :=
  ∀ s : State,
    (∀ j : Fin 64, readDigest s j = if readStatus s = 2 ∧ j.val < s.NN.toNat then some s.DIGEST[j] else none) ∧
    (∀ i : Fin 128, (readHex s i).isSome = true ↔ readStatus s = 2 ∧ i.val < 2 * s.NN.toNat) ∧
    (readCause s = if readStatus s = 3 then some s.CAUSE else none)

/-- HEX, while STATUS is DONE: two lowercase hexadecimal characters a byte, the high half first, no delimiter
(41_digest_driver.md R117). It speaks of a block that has the HEX port, as the model's always has (log 17). -/
def Obligations.HexRendersTheDigest : Prop :=
  ∀ (s : State) (j : Fin 64), readStatus s = 2 → j.val < s.NN.toNat →
    readHex s ⟨2 * j.val, by omega⟩ =
      some (BitVec.ofNat 8 ("0123456789abcdef".toList.getD (s.DIGEST[j].toNat / 16) ' ').toNat) ∧
    readHex s ⟨2 * j.val + 1, by omega⟩ =
      some (BitVec.ofNat 8 ("0123456789abcdef".toList.getD (s.DIGEST[j].toNat % 16) ' ').toNat)

/-! Rules of the whole machine. -/

/-- Each register is written by the operations its rule names and by no other; the block never writes the byte source,
RST or the host; only the loads make requests; only START takes a word off CMD (10_state.md R11 to R22;
20_memory.md R49). -/
def Obligations.WritersOfEachRegister : Prop :=
  ∀ (i : Instr) (s t : State), exec i s = .next t →
    (t.V = s.V ∨ i = .vset ∨ isMixing i = true) ∧ (t.H = s.H ∨ i = .init ∨ i = .fold) ∧
    (t.M = s.M ∨ i = .mdec) ∧ (t.BLK = s.BLK ∨ i = .loadn ∨ i = .loadf) ∧
    (t.LAST = s.LAST ∨ i = .loadn ∨ i = .loadf) ∧ (t.T = s.T ∨ i = .init ∨ i = .loadn ∨ i = .loadf) ∧
    ((t.LEN = s.LEN ∧ t.NN = s.NN ∧ t.cmd = s.cmd) ∨ ∃ nn len, i = .start nn len) ∧
    (t.CAUSE = s.CAUSE ∨ i = .loadn ∨ i = .loadf) ∧ (t.DIGEST = s.DIGEST ∨ i = .init ∨ i = .emit) ∧
    ((t.requests = s.requests ∧ t.srcPlan = s.srcPlan) ∨ i = .loadn ∨ i = .loadf) ∧
    t.mem = s.mem ∧ t.rst = s.rst ∧ t.host = s.host

/-- Only LOADN and LOADF raise an exception, and the step that raises one writes CAUSE and SEQ and no other register;
CAUSE is written in no other way (60_exceptions.md R160, R165). -/
def Obligations.OnlyLoadsRaiseAndPrecisely : Prop :=
  ∀ (i : Instr) (s t : State), exec i s = .next t →
    (t.SEQ = 0xB00#12 → s.SEQ ≠ 0xB00#12 → (i = .loadn ∨ i = .loadf) ∧
      t = { s with CAUSE := t.CAUSE, SEQ := 0xB00#12, srcPlan := s.srcPlan.tail, requests := t.requests }) ∧
    (t.CAUSE ≠ s.CAUSE → t.SEQ = 0xB00#12)

/-- The host's reads depend on SEQ, CAUSE, DIGEST and NN and on nothing else of the state (10_state.md R25). -/
def Obligations.HostSeesOnlyItsPorts : Prop :=
  ∀ s t : State, s.SEQ = t.SEQ → s.CAUSE = t.CAUSE → s.DIGEST = t.DIGEST → s.NN = t.NN → SameReads s t

/-- The host's acts write no register of the block; its only writes are those of START, to NN, LEN and SEQ, and of
reset (10_state.md R25). The acts, and that each step performs one, are the model's (log 7). -/
def Obligations.HostWritesOnlyByStartAndReset : Prop :=
  (∀ (s : State) (act : HostAct), SameRegisters (hostAct s act) s) ∧ (∀ s : State, SameRegisters (hostMove s) s) ∧
  (∀ s t : State, (hostMove s).rst = false → Waiting s → step s = .next t →
    SameRegisters t { s with NN := t.NN, LEN := t.LEN, SEQ := t.SEQ } ∧
    (accepted (hostMove s) = none → SameRegisters t s))

/-- The invariant holds after reset. -/
def Obligations.InvariantHoldsAtReset : Prop := Inv State.reset

/-- Every step keeps the invariant: SEQ is a legal word, the digest length is legal and the counter is what R120 and
R115 say in every phase of a run, the digest stands in DONE, the source's contents stay in canonical form
(30_encoding.md R68; 41_digest_driver.md R115, R120, R121). -/
def Obligations.EveryStepKeepsTheInvariant : Prop :=
  ∀ s t : State, Inv s → step s = .next t → Inv t

/-- From a state of the invariant a step never faults, and is refused only for a START with `nn` outside 1..64 that
would be accepted, or at a load for an answer longer than it asked: more than 128 bytes at LOADN, more than LEN - T at
LOADF (R120; 30_encoding.md R67, R68; 93_implementation_defined.md U1, U13). -/
def Obligations.StepStopsOnlyOutsideTheContract : Prop :=
  ∀ s : State, Inv s →
    (∀ f, step s ≠ .fault f) ∧
    (∀ e, step s = .refused e →
      (e = .digestLengthOutsideContract ∧ (hostMove s).status ≠ .busy ∧
        ∃ w, (hostMove s).cmd = some w ∧ opField w = 0x01 ∧ ¬ legalLength (nnField w)) ∨
      (e = .answerLongerThanAsked ∧ ∃ bytes rest, (hostMove s).srcPlan = .give bytes :: rest ∧
        (s.SEQ = 0x300#12 ∧ 128 < bytes.length ∨
          s.SEQ = 0x400#12 ∧ s.LEN.toNat - s.T.toNat < bytes.length)))

/-- Every request of a step has the offset T, a multiple of 128, asks for at most 128 bytes and for none at or past
LEN; a step makes at most one (20_memory.md R46, R47, R48). -/
def Obligations.RequestsStayInsideTheMessage : Prop :=
  ∀ s t : State, Inv s → step s = .next t →
    t.requests = s.requests ∨
    ∃ n, t.requests = s.requests ++ [⟨s.T, n⟩] ∧ 128 ∣ s.T.toNat ∧ n ≤ 128 ∧ s.T.toNat + n ≤ s.LEN.toNat

/-! Whole runs. -/

/-- A run on a byte source that keeps its contract ends in DONE with the digest of the message, after 101c + 2
micro-operations, having requested every block once, in order; whatever the registers held before
(41_digest_driver.md R118, R119; 20_memory.md R46). The first step accepts START. -/
def Obligations.RunYieldsTheDigest : Prop :=
  ∀ (s : State) (nn : BitVec 8) (len : BitVec 64) (msg : List Byte),
    Waiting s → Undisturbed s → Presents s nn len → legalLength nn → msg.length = len.toNat →
    HoldsMessage s msg → (∀ act ∈ s.srcPlan, act = .serve) →
    ∃ t, runSteps (1 + (101 * compressions len.toNat + 2)) s = .next t ∧ readStatus t = 2 ∧
      (∀ j : Fin 64, j.val < nn.toNat → readDigest t j = (digest msg nn)[j.val]?) ∧
      t.requests = s.requests ++ requestsOfRun len.toNat

/-- A failed run: if the first k requests are answered in full and the next one, of offset 128k, is answered with an
error, or is a non-final one answered short, the run ends in ERROR, with that code or with 3, with no digest, having
made the requests up to the failed one; whatever the registers held before (R118; 60_exceptions.md R161, R162, R163,
R174; 20_memory.md R46). -/
def Obligations.FailedRunYieldsTheCause : Prop :=
  ∀ (s : State) (nn : BitVec 8) (len : BitVec 64) (k : Nat) (code : Byte),
    Waiting s → Undisturbed s → Presents s nn len → legalLength nn → k ≤ nonFinalBlocks len.toNat →
    AnsweredInFull s 0 k →
    (answerTo s 0 k (min 128 (len.toNat - 128 * k)) = .err code ∨
      (k < nonFinalBlocks len.toNat ∧ code = 3 ∧
        ∃ bytes, answerTo s 0 k 128 = .ok bytes ∧ bytes.length < 128)) →
    ∃ t, runSteps (1 + (101 * k + 3)) s = .next t ∧ readStatus t = 3 ∧ readCause t = some code ∧
      (∀ j : Fin 64, readDigest t j = none) ∧
      t.requests = s.requests ++ (requestsOfRun len.toNat).take (k + 1)

/-- What the host reads in a run does not depend on what the registers held before it: two blocks given the same
command and the same byte source read the same after every step (R122; 10_state.md R28). -/
def Obligations.RunIsIndependentOfThePast : Prop :=
  ∀ (s s' : State) (nn : BitVec 8) (len : BitVec 64) (k : Nat), Waiting s → Waiting s' → Undisturbed s → Undisturbed s' →
    Presents s nn len → Presents s' nn len → s.mem = s'.mem → s.srcPlan = s'.srcPlan → 1 ≤ k →
    SameOutcome SameReads (runSteps k s) (runSteps k s')

/-- Message bytes never steer the block: from two states that differ at most in message data, every number of steps
leads to two such states, or to the same stop (20_memory.md R55). -/
def Obligations.MessageBytesNeverSteerTheSequencer : Prop :=
  ∀ (s s' : State) (k : Nat), SameControl s s' → SameOutcome SameControl (runSteps k s) (runSteps k s')

/-- A run in progress ends, in DONE or in ERROR, within 101c + 2 micro-operations, if the byte source answers every
request it makes, with at most the bytes asked for or with an error (70_reset_and_hazards.md R189; 20_memory.md
R41). -/
def Obligations.EveryAnsweredRunEnds : Prop :=
  ∀ s : State, Inv s → Undisturbed s → s.status = .busy → AnswersEvery s →
    ∃ k t, k ≤ 101 * compressions s.LEN.toNat + 2 ∧ runSteps k s = .next t ∧
      (t.SEQ = 0xA00#12 ∨ t.SEQ = 0xB00#12)
end

