-- ==== Sys2Proof/Laws/Decode.lean ====
section
/-! SUPPORT. What the words that the micro-operations write to SEQ decode to, and what STATUS is for each legal
word. -/

namespace Sys2Proof.Machine

theorem decode_seqWord_idle : decode (.sequencer (seqWord .idle 0 0)) = .ok .idle := by decide
theorem decode_seqWord_init : decode (.sequencer (seqWord .init 0 0)) = .ok .init := by decide
theorem decode_seqWord_sel : decode (.sequencer (seqWord .sel 0 0)) = .ok .sel := by decide
theorem decode_seqWord_loadn : decode (.sequencer (seqWord .loadn 0 0)) = .ok .loadn := by decide
theorem decode_seqWord_loadf : decode (.sequencer (seqWord .loadf 0 0)) = .ok .loadf := by decide
theorem decode_seqWord_vset : decode (.sequencer (seqWord .vset 0 0)) = .ok .vset := by decide
theorem decode_seqWord_mdec : decode (.sequencer (seqWord .mdec 0 0)) = .ok .mdec := by decide
theorem decode_seqWord_g : decode (.sequencer (seqWord .g 0 0)) = .ok (.g0 0) := by decide
theorem decode_seqWord_fold : decode (.sequencer (seqWord .fold 0 0)) = .ok .fold := by decide
theorem decode_seqWord_emit : decode (.sequencer (seqWord .emit 0 0)) = .ok .emit := by decide
theorem decode_seqWord_done : decode (.sequencer (seqWord .done 0 0)) = .ok .done := by decide
theorem decode_seqWord_error : decode (.sequencer (seqWord .error 0 0)) = .ok .error := by decide

/-! The words the mixing micro-operations go on to (40_compression_engine.md R89 line 4). -/

theorem decode_afterMixing_0 (r : Fin 12) : decode (.sequencer (afterMixing r 0)) = .ok (.g1 r) := by revert r; decide
theorem decode_afterMixing_1 (r : Fin 12) : decode (.sequencer (afterMixing r 1)) = .ok (.g2 r) := by revert r; decide
theorem decode_afterMixing_2 (r : Fin 12) : decode (.sequencer (afterMixing r 2)) = .ok (.g3 r) := by revert r; decide
theorem decode_afterMixing_3 (r : Fin 12) : decode (.sequencer (afterMixing r 3)) = .ok (.g4 r) := by revert r; decide
theorem decode_afterMixing_4 (r : Fin 12) : decode (.sequencer (afterMixing r 4)) = .ok (.g5 r) := by revert r; decide
theorem decode_afterMixing_5 (r : Fin 12) : decode (.sequencer (afterMixing r 5)) = .ok (.g6 r) := by revert r; decide
theorem decode_afterMixing_6 (r : Fin 12) : decode (.sequencer (afterMixing r 6)) = .ok (.g7 r) := by revert r; decide
theorem decode_afterMixing_7 (r : Fin 12) :
    decode (.sequencer (afterMixing r 7)) = .ok (if h : r.val < 11 then .g0 ⟨r.val + 1, by omega⟩ else .fold) := by
  revert r; decide
theorem statusOf_afterMixing (r : Fin 12) (k : Fin 8) : statusOf (afterMixing r k) = .busy := by
  revert r k; decide

/-- A command word decodes to START exactly by its `op` (30_encoding.md R66, R67). -/
theorem decode_command (w : BitVec 80) :
    decode (.command w) = if opField w = opStart then .ok (.start (nnField w) (lenField w)) else .bad .reservedOp := rfl

/-- The sequencer's port carries no START. -/
theorem decode_sequencer_ne_start (w : BitVec 12) (nn : BitVec 8) (len : BitVec 64) :
    decode (.sequencer w) ≠ .ok (.start nn len) := by
  simp only [decode, decodeSequencer, decodeMixing, decodePlain]
  intro h
  split at h
  · split at h
    · split at h
      · rename_i i hi
        injection h with h
        subst h
        unfold mixingOperation at hi
        split at hi <;> cases hi
      · cases h
    · cases h
  · split at h
    · rename_i i hi
      split at h
      · injection h with h
        subst h
        unfold plainOperation at hi
        split at hi <;> cases hi
      · cases h
    · cases h

end Sys2Proof.Machine
end

