-- ==== Sys2Proof/Laws/State.lean ====
section
/-! SUPPORT. What each register write does to each field: one lemma per field per write, so that no proof unfolds a
record update. A write changes its own field and no other. -/

namespace Sys2Proof.Machine

@[simp] theorem State.setV_V (s : State) (v : Vector Word 16) : (s.setV v).V = v := rfl
@[simp] theorem State.setV_H (s : State) (v : Vector Word 16) : (s.setV v).H = s.H := rfl
@[simp] theorem State.setV_M (s : State) (v : Vector Word 16) : (s.setV v).M = s.M := rfl
@[simp] theorem State.setV_BLK (s : State) (v : Vector Word 16) : (s.setV v).BLK = s.BLK := rfl
@[simp] theorem State.setV_SEQ (s : State) (v : Vector Word 16) : (s.setV v).SEQ = s.SEQ := rfl
@[simp] theorem State.setV_LAST (s : State) (v : Vector Word 16) : (s.setV v).LAST = s.LAST := rfl
@[simp] theorem State.setV_T (s : State) (v : Vector Word 16) : (s.setV v).T = s.T := rfl
@[simp] theorem State.setV_LEN (s : State) (v : Vector Word 16) : (s.setV v).LEN = s.LEN := rfl
@[simp] theorem State.setV_NN (s : State) (v : Vector Word 16) : (s.setV v).NN = s.NN := rfl
@[simp] theorem State.setV_CAUSE (s : State) (v : Vector Word 16) : (s.setV v).CAUSE = s.CAUSE := rfl
@[simp] theorem State.setV_DIGEST (s : State) (v : Vector Word 16) : (s.setV v).DIGEST = s.DIGEST := rfl
@[simp] theorem State.setV_mem (s : State) (v : Vector Word 16) : (s.setV v).mem = s.mem := rfl
@[simp] theorem State.setV_srcPlan (s : State) (v : Vector Word 16) : (s.setV v).srcPlan = s.srcPlan := rfl
@[simp] theorem State.setV_requests (s : State) (v : Vector Word 16) : (s.setV v).requests = s.requests := rfl
@[simp] theorem State.setV_rst (s : State) (v : Vector Word 16) : (s.setV v).rst = s.rst := rfl
@[simp] theorem State.setV_cmd (s : State) (v : Vector Word 16) : (s.setV v).cmd = s.cmd := rfl
@[simp] theorem State.setV_host (s : State) (v : Vector Word 16) : (s.setV v).host = s.host := rfl
@[simp] theorem State.setV_fresh (s : State) (v : Vector Word 16) : (s.setV v).fresh = s.fresh := rfl

@[simp] theorem State.setH_V (s : State) (h : Vector Word 8) : (s.setH h).V = s.V := rfl
@[simp] theorem State.setH_H (s : State) (h : Vector Word 8) : (s.setH h).H = h := rfl
@[simp] theorem State.setH_M (s : State) (h : Vector Word 8) : (s.setH h).M = s.M := rfl
@[simp] theorem State.setH_BLK (s : State) (h : Vector Word 8) : (s.setH h).BLK = s.BLK := rfl
@[simp] theorem State.setH_SEQ (s : State) (h : Vector Word 8) : (s.setH h).SEQ = s.SEQ := rfl
@[simp] theorem State.setH_LAST (s : State) (h : Vector Word 8) : (s.setH h).LAST = s.LAST := rfl
@[simp] theorem State.setH_T (s : State) (h : Vector Word 8) : (s.setH h).T = s.T := rfl
@[simp] theorem State.setH_LEN (s : State) (h : Vector Word 8) : (s.setH h).LEN = s.LEN := rfl
@[simp] theorem State.setH_NN (s : State) (h : Vector Word 8) : (s.setH h).NN = s.NN := rfl
@[simp] theorem State.setH_CAUSE (s : State) (h : Vector Word 8) : (s.setH h).CAUSE = s.CAUSE := rfl
@[simp] theorem State.setH_DIGEST (s : State) (h : Vector Word 8) : (s.setH h).DIGEST = s.DIGEST := rfl
@[simp] theorem State.setH_mem (s : State) (h : Vector Word 8) : (s.setH h).mem = s.mem := rfl
@[simp] theorem State.setH_srcPlan (s : State) (h : Vector Word 8) : (s.setH h).srcPlan = s.srcPlan := rfl
@[simp] theorem State.setH_requests (s : State) (h : Vector Word 8) : (s.setH h).requests = s.requests := rfl
@[simp] theorem State.setH_rst (s : State) (h : Vector Word 8) : (s.setH h).rst = s.rst := rfl
@[simp] theorem State.setH_cmd (s : State) (h : Vector Word 8) : (s.setH h).cmd = s.cmd := rfl
@[simp] theorem State.setH_host (s : State) (h : Vector Word 8) : (s.setH h).host = s.host := rfl
@[simp] theorem State.setH_fresh (s : State) (h : Vector Word 8) : (s.setH h).fresh = s.fresh := rfl

@[simp] theorem State.setM_V (s : State) (m : Vector Word 16) : (s.setM m).V = s.V := rfl
@[simp] theorem State.setM_H (s : State) (m : Vector Word 16) : (s.setM m).H = s.H := rfl
@[simp] theorem State.setM_M (s : State) (m : Vector Word 16) : (s.setM m).M = m := rfl
@[simp] theorem State.setM_BLK (s : State) (m : Vector Word 16) : (s.setM m).BLK = s.BLK := rfl
@[simp] theorem State.setM_SEQ (s : State) (m : Vector Word 16) : (s.setM m).SEQ = s.SEQ := rfl
@[simp] theorem State.setM_LAST (s : State) (m : Vector Word 16) : (s.setM m).LAST = s.LAST := rfl
@[simp] theorem State.setM_T (s : State) (m : Vector Word 16) : (s.setM m).T = s.T := rfl
@[simp] theorem State.setM_LEN (s : State) (m : Vector Word 16) : (s.setM m).LEN = s.LEN := rfl
@[simp] theorem State.setM_NN (s : State) (m : Vector Word 16) : (s.setM m).NN = s.NN := rfl
@[simp] theorem State.setM_CAUSE (s : State) (m : Vector Word 16) : (s.setM m).CAUSE = s.CAUSE := rfl
@[simp] theorem State.setM_DIGEST (s : State) (m : Vector Word 16) : (s.setM m).DIGEST = s.DIGEST := rfl
@[simp] theorem State.setM_mem (s : State) (m : Vector Word 16) : (s.setM m).mem = s.mem := rfl
@[simp] theorem State.setM_srcPlan (s : State) (m : Vector Word 16) : (s.setM m).srcPlan = s.srcPlan := rfl
@[simp] theorem State.setM_requests (s : State) (m : Vector Word 16) : (s.setM m).requests = s.requests := rfl
@[simp] theorem State.setM_rst (s : State) (m : Vector Word 16) : (s.setM m).rst = s.rst := rfl
@[simp] theorem State.setM_cmd (s : State) (m : Vector Word 16) : (s.setM m).cmd = s.cmd := rfl
@[simp] theorem State.setM_host (s : State) (m : Vector Word 16) : (s.setM m).host = s.host := rfl
@[simp] theorem State.setM_fresh (s : State) (m : Vector Word 16) : (s.setM m).fresh = s.fresh := rfl

@[simp] theorem State.setBLK_V (s : State) (b : Vector Byte 128) : (s.setBLK b).V = s.V := rfl
@[simp] theorem State.setBLK_H (s : State) (b : Vector Byte 128) : (s.setBLK b).H = s.H := rfl
@[simp] theorem State.setBLK_M (s : State) (b : Vector Byte 128) : (s.setBLK b).M = s.M := rfl
@[simp] theorem State.setBLK_BLK (s : State) (b : Vector Byte 128) : (s.setBLK b).BLK = b := rfl
@[simp] theorem State.setBLK_SEQ (s : State) (b : Vector Byte 128) : (s.setBLK b).SEQ = s.SEQ := rfl
@[simp] theorem State.setBLK_LAST (s : State) (b : Vector Byte 128) : (s.setBLK b).LAST = s.LAST := rfl
@[simp] theorem State.setBLK_T (s : State) (b : Vector Byte 128) : (s.setBLK b).T = s.T := rfl
@[simp] theorem State.setBLK_LEN (s : State) (b : Vector Byte 128) : (s.setBLK b).LEN = s.LEN := rfl
@[simp] theorem State.setBLK_NN (s : State) (b : Vector Byte 128) : (s.setBLK b).NN = s.NN := rfl
@[simp] theorem State.setBLK_CAUSE (s : State) (b : Vector Byte 128) : (s.setBLK b).CAUSE = s.CAUSE := rfl
@[simp] theorem State.setBLK_DIGEST (s : State) (b : Vector Byte 128) : (s.setBLK b).DIGEST = s.DIGEST := rfl
@[simp] theorem State.setBLK_mem (s : State) (b : Vector Byte 128) : (s.setBLK b).mem = s.mem := rfl
@[simp] theorem State.setBLK_srcPlan (s : State) (b : Vector Byte 128) : (s.setBLK b).srcPlan = s.srcPlan := rfl
@[simp] theorem State.setBLK_requests (s : State) (b : Vector Byte 128) : (s.setBLK b).requests = s.requests := rfl
@[simp] theorem State.setBLK_rst (s : State) (b : Vector Byte 128) : (s.setBLK b).rst = s.rst := rfl
@[simp] theorem State.setBLK_cmd (s : State) (b : Vector Byte 128) : (s.setBLK b).cmd = s.cmd := rfl
@[simp] theorem State.setBLK_host (s : State) (b : Vector Byte 128) : (s.setBLK b).host = s.host := rfl
@[simp] theorem State.setBLK_fresh (s : State) (b : Vector Byte 128) : (s.setBLK b).fresh = s.fresh := rfl

@[simp] theorem State.setSEQ_V (s : State) (w : BitVec 12) : (s.setSEQ w).V = s.V := rfl
@[simp] theorem State.setSEQ_H (s : State) (w : BitVec 12) : (s.setSEQ w).H = s.H := rfl
@[simp] theorem State.setSEQ_M (s : State) (w : BitVec 12) : (s.setSEQ w).M = s.M := rfl
@[simp] theorem State.setSEQ_BLK (s : State) (w : BitVec 12) : (s.setSEQ w).BLK = s.BLK := rfl
@[simp] theorem State.setSEQ_SEQ (s : State) (w : BitVec 12) : (s.setSEQ w).SEQ = w := rfl
@[simp] theorem State.setSEQ_LAST (s : State) (w : BitVec 12) : (s.setSEQ w).LAST = s.LAST := rfl
@[simp] theorem State.setSEQ_T (s : State) (w : BitVec 12) : (s.setSEQ w).T = s.T := rfl
@[simp] theorem State.setSEQ_LEN (s : State) (w : BitVec 12) : (s.setSEQ w).LEN = s.LEN := rfl
@[simp] theorem State.setSEQ_NN (s : State) (w : BitVec 12) : (s.setSEQ w).NN = s.NN := rfl
@[simp] theorem State.setSEQ_CAUSE (s : State) (w : BitVec 12) : (s.setSEQ w).CAUSE = s.CAUSE := rfl
@[simp] theorem State.setSEQ_DIGEST (s : State) (w : BitVec 12) : (s.setSEQ w).DIGEST = s.DIGEST := rfl
@[simp] theorem State.setSEQ_mem (s : State) (w : BitVec 12) : (s.setSEQ w).mem = s.mem := rfl
@[simp] theorem State.setSEQ_srcPlan (s : State) (w : BitVec 12) : (s.setSEQ w).srcPlan = s.srcPlan := rfl
@[simp] theorem State.setSEQ_requests (s : State) (w : BitVec 12) : (s.setSEQ w).requests = s.requests := rfl
@[simp] theorem State.setSEQ_rst (s : State) (w : BitVec 12) : (s.setSEQ w).rst = s.rst := rfl
@[simp] theorem State.setSEQ_cmd (s : State) (w : BitVec 12) : (s.setSEQ w).cmd = s.cmd := rfl
@[simp] theorem State.setSEQ_host (s : State) (w : BitVec 12) : (s.setSEQ w).host = s.host := rfl
@[simp] theorem State.setSEQ_fresh (s : State) (w : BitVec 12) : (s.setSEQ w).fresh = s.fresh := rfl

@[simp] theorem State.setLAST_V (s : State) (b : Bool) : (s.setLAST b).V = s.V := rfl
@[simp] theorem State.setLAST_H (s : State) (b : Bool) : (s.setLAST b).H = s.H := rfl
@[simp] theorem State.setLAST_M (s : State) (b : Bool) : (s.setLAST b).M = s.M := rfl
@[simp] theorem State.setLAST_BLK (s : State) (b : Bool) : (s.setLAST b).BLK = s.BLK := rfl
@[simp] theorem State.setLAST_SEQ (s : State) (b : Bool) : (s.setLAST b).SEQ = s.SEQ := rfl
@[simp] theorem State.setLAST_LAST (s : State) (b : Bool) : (s.setLAST b).LAST = b := rfl
@[simp] theorem State.setLAST_T (s : State) (b : Bool) : (s.setLAST b).T = s.T := rfl
@[simp] theorem State.setLAST_LEN (s : State) (b : Bool) : (s.setLAST b).LEN = s.LEN := rfl
@[simp] theorem State.setLAST_NN (s : State) (b : Bool) : (s.setLAST b).NN = s.NN := rfl
@[simp] theorem State.setLAST_CAUSE (s : State) (b : Bool) : (s.setLAST b).CAUSE = s.CAUSE := rfl
@[simp] theorem State.setLAST_DIGEST (s : State) (b : Bool) : (s.setLAST b).DIGEST = s.DIGEST := rfl
@[simp] theorem State.setLAST_mem (s : State) (b : Bool) : (s.setLAST b).mem = s.mem := rfl
@[simp] theorem State.setLAST_srcPlan (s : State) (b : Bool) : (s.setLAST b).srcPlan = s.srcPlan := rfl
@[simp] theorem State.setLAST_requests (s : State) (b : Bool) : (s.setLAST b).requests = s.requests := rfl
@[simp] theorem State.setLAST_rst (s : State) (b : Bool) : (s.setLAST b).rst = s.rst := rfl
@[simp] theorem State.setLAST_cmd (s : State) (b : Bool) : (s.setLAST b).cmd = s.cmd := rfl
@[simp] theorem State.setLAST_host (s : State) (b : Bool) : (s.setLAST b).host = s.host := rfl
@[simp] theorem State.setLAST_fresh (s : State) (b : Bool) : (s.setLAST b).fresh = s.fresh := rfl

@[simp] theorem State.setT_V (s : State) (t : Word) : (s.setT t).V = s.V := rfl
@[simp] theorem State.setT_H (s : State) (t : Word) : (s.setT t).H = s.H := rfl
@[simp] theorem State.setT_M (s : State) (t : Word) : (s.setT t).M = s.M := rfl
@[simp] theorem State.setT_BLK (s : State) (t : Word) : (s.setT t).BLK = s.BLK := rfl
@[simp] theorem State.setT_SEQ (s : State) (t : Word) : (s.setT t).SEQ = s.SEQ := rfl
@[simp] theorem State.setT_LAST (s : State) (t : Word) : (s.setT t).LAST = s.LAST := rfl
@[simp] theorem State.setT_T (s : State) (t : Word) : (s.setT t).T = t := rfl
@[simp] theorem State.setT_LEN (s : State) (t : Word) : (s.setT t).LEN = s.LEN := rfl
@[simp] theorem State.setT_NN (s : State) (t : Word) : (s.setT t).NN = s.NN := rfl
@[simp] theorem State.setT_CAUSE (s : State) (t : Word) : (s.setT t).CAUSE = s.CAUSE := rfl
@[simp] theorem State.setT_DIGEST (s : State) (t : Word) : (s.setT t).DIGEST = s.DIGEST := rfl
@[simp] theorem State.setT_mem (s : State) (t : Word) : (s.setT t).mem = s.mem := rfl
@[simp] theorem State.setT_srcPlan (s : State) (t : Word) : (s.setT t).srcPlan = s.srcPlan := rfl
@[simp] theorem State.setT_requests (s : State) (t : Word) : (s.setT t).requests = s.requests := rfl
@[simp] theorem State.setT_rst (s : State) (t : Word) : (s.setT t).rst = s.rst := rfl
@[simp] theorem State.setT_cmd (s : State) (t : Word) : (s.setT t).cmd = s.cmd := rfl
@[simp] theorem State.setT_host (s : State) (t : Word) : (s.setT t).host = s.host := rfl
@[simp] theorem State.setT_fresh (s : State) (t : Word) : (s.setT t).fresh = s.fresh := rfl

@[simp] theorem State.setLEN_V (s : State) (l : Word) : (s.setLEN l).V = s.V := rfl
@[simp] theorem State.setLEN_H (s : State) (l : Word) : (s.setLEN l).H = s.H := rfl
@[simp] theorem State.setLEN_M (s : State) (l : Word) : (s.setLEN l).M = s.M := rfl
@[simp] theorem State.setLEN_BLK (s : State) (l : Word) : (s.setLEN l).BLK = s.BLK := rfl
@[simp] theorem State.setLEN_SEQ (s : State) (l : Word) : (s.setLEN l).SEQ = s.SEQ := rfl
@[simp] theorem State.setLEN_LAST (s : State) (l : Word) : (s.setLEN l).LAST = s.LAST := rfl
@[simp] theorem State.setLEN_T (s : State) (l : Word) : (s.setLEN l).T = s.T := rfl
@[simp] theorem State.setLEN_LEN (s : State) (l : Word) : (s.setLEN l).LEN = l := rfl
@[simp] theorem State.setLEN_NN (s : State) (l : Word) : (s.setLEN l).NN = s.NN := rfl
@[simp] theorem State.setLEN_CAUSE (s : State) (l : Word) : (s.setLEN l).CAUSE = s.CAUSE := rfl
@[simp] theorem State.setLEN_DIGEST (s : State) (l : Word) : (s.setLEN l).DIGEST = s.DIGEST := rfl
@[simp] theorem State.setLEN_mem (s : State) (l : Word) : (s.setLEN l).mem = s.mem := rfl
@[simp] theorem State.setLEN_srcPlan (s : State) (l : Word) : (s.setLEN l).srcPlan = s.srcPlan := rfl
@[simp] theorem State.setLEN_requests (s : State) (l : Word) : (s.setLEN l).requests = s.requests := rfl
@[simp] theorem State.setLEN_rst (s : State) (l : Word) : (s.setLEN l).rst = s.rst := rfl
@[simp] theorem State.setLEN_cmd (s : State) (l : Word) : (s.setLEN l).cmd = s.cmd := rfl
@[simp] theorem State.setLEN_host (s : State) (l : Word) : (s.setLEN l).host = s.host := rfl
@[simp] theorem State.setLEN_fresh (s : State) (l : Word) : (s.setLEN l).fresh = s.fresh := rfl

@[simp] theorem State.setNN_V (s : State) (n : BitVec 8) : (s.setNN n).V = s.V := rfl
@[simp] theorem State.setNN_H (s : State) (n : BitVec 8) : (s.setNN n).H = s.H := rfl
@[simp] theorem State.setNN_M (s : State) (n : BitVec 8) : (s.setNN n).M = s.M := rfl
@[simp] theorem State.setNN_BLK (s : State) (n : BitVec 8) : (s.setNN n).BLK = s.BLK := rfl
@[simp] theorem State.setNN_SEQ (s : State) (n : BitVec 8) : (s.setNN n).SEQ = s.SEQ := rfl
@[simp] theorem State.setNN_LAST (s : State) (n : BitVec 8) : (s.setNN n).LAST = s.LAST := rfl
@[simp] theorem State.setNN_T (s : State) (n : BitVec 8) : (s.setNN n).T = s.T := rfl
@[simp] theorem State.setNN_LEN (s : State) (n : BitVec 8) : (s.setNN n).LEN = s.LEN := rfl
@[simp] theorem State.setNN_NN (s : State) (n : BitVec 8) : (s.setNN n).NN = n := rfl
@[simp] theorem State.setNN_CAUSE (s : State) (n : BitVec 8) : (s.setNN n).CAUSE = s.CAUSE := rfl
@[simp] theorem State.setNN_DIGEST (s : State) (n : BitVec 8) : (s.setNN n).DIGEST = s.DIGEST := rfl
@[simp] theorem State.setNN_mem (s : State) (n : BitVec 8) : (s.setNN n).mem = s.mem := rfl
@[simp] theorem State.setNN_srcPlan (s : State) (n : BitVec 8) : (s.setNN n).srcPlan = s.srcPlan := rfl
@[simp] theorem State.setNN_requests (s : State) (n : BitVec 8) : (s.setNN n).requests = s.requests := rfl
@[simp] theorem State.setNN_rst (s : State) (n : BitVec 8) : (s.setNN n).rst = s.rst := rfl
@[simp] theorem State.setNN_cmd (s : State) (n : BitVec 8) : (s.setNN n).cmd = s.cmd := rfl
@[simp] theorem State.setNN_host (s : State) (n : BitVec 8) : (s.setNN n).host = s.host := rfl
@[simp] theorem State.setNN_fresh (s : State) (n : BitVec 8) : (s.setNN n).fresh = s.fresh := rfl

@[simp] theorem State.setCAUSE_V (s : State) (c : BitVec 8) : (s.setCAUSE c).V = s.V := rfl
@[simp] theorem State.setCAUSE_H (s : State) (c : BitVec 8) : (s.setCAUSE c).H = s.H := rfl
@[simp] theorem State.setCAUSE_M (s : State) (c : BitVec 8) : (s.setCAUSE c).M = s.M := rfl
@[simp] theorem State.setCAUSE_BLK (s : State) (c : BitVec 8) : (s.setCAUSE c).BLK = s.BLK := rfl
@[simp] theorem State.setCAUSE_SEQ (s : State) (c : BitVec 8) : (s.setCAUSE c).SEQ = s.SEQ := rfl
@[simp] theorem State.setCAUSE_LAST (s : State) (c : BitVec 8) : (s.setCAUSE c).LAST = s.LAST := rfl
@[simp] theorem State.setCAUSE_T (s : State) (c : BitVec 8) : (s.setCAUSE c).T = s.T := rfl
@[simp] theorem State.setCAUSE_LEN (s : State) (c : BitVec 8) : (s.setCAUSE c).LEN = s.LEN := rfl
@[simp] theorem State.setCAUSE_NN (s : State) (c : BitVec 8) : (s.setCAUSE c).NN = s.NN := rfl
@[simp] theorem State.setCAUSE_CAUSE (s : State) (c : BitVec 8) : (s.setCAUSE c).CAUSE = c := rfl
@[simp] theorem State.setCAUSE_DIGEST (s : State) (c : BitVec 8) : (s.setCAUSE c).DIGEST = s.DIGEST := rfl
@[simp] theorem State.setCAUSE_mem (s : State) (c : BitVec 8) : (s.setCAUSE c).mem = s.mem := rfl
@[simp] theorem State.setCAUSE_srcPlan (s : State) (c : BitVec 8) : (s.setCAUSE c).srcPlan = s.srcPlan := rfl
@[simp] theorem State.setCAUSE_requests (s : State) (c : BitVec 8) : (s.setCAUSE c).requests = s.requests := rfl
@[simp] theorem State.setCAUSE_rst (s : State) (c : BitVec 8) : (s.setCAUSE c).rst = s.rst := rfl
@[simp] theorem State.setCAUSE_cmd (s : State) (c : BitVec 8) : (s.setCAUSE c).cmd = s.cmd := rfl
@[simp] theorem State.setCAUSE_host (s : State) (c : BitVec 8) : (s.setCAUSE c).host = s.host := rfl
@[simp] theorem State.setCAUSE_fresh (s : State) (c : BitVec 8) : (s.setCAUSE c).fresh = s.fresh := rfl

@[simp] theorem State.setDIGEST_V (s : State) (d : Vector Byte 64) : (s.setDIGEST d).V = s.V := rfl
@[simp] theorem State.setDIGEST_H (s : State) (d : Vector Byte 64) : (s.setDIGEST d).H = s.H := rfl
@[simp] theorem State.setDIGEST_M (s : State) (d : Vector Byte 64) : (s.setDIGEST d).M = s.M := rfl
@[simp] theorem State.setDIGEST_BLK (s : State) (d : Vector Byte 64) : (s.setDIGEST d).BLK = s.BLK := rfl
@[simp] theorem State.setDIGEST_SEQ (s : State) (d : Vector Byte 64) : (s.setDIGEST d).SEQ = s.SEQ := rfl
@[simp] theorem State.setDIGEST_LAST (s : State) (d : Vector Byte 64) : (s.setDIGEST d).LAST = s.LAST := rfl
@[simp] theorem State.setDIGEST_T (s : State) (d : Vector Byte 64) : (s.setDIGEST d).T = s.T := rfl
@[simp] theorem State.setDIGEST_LEN (s : State) (d : Vector Byte 64) : (s.setDIGEST d).LEN = s.LEN := rfl
@[simp] theorem State.setDIGEST_NN (s : State) (d : Vector Byte 64) : (s.setDIGEST d).NN = s.NN := rfl
@[simp] theorem State.setDIGEST_CAUSE (s : State) (d : Vector Byte 64) : (s.setDIGEST d).CAUSE = s.CAUSE := rfl
@[simp] theorem State.setDIGEST_DIGEST (s : State) (d : Vector Byte 64) : (s.setDIGEST d).DIGEST = d := rfl
@[simp] theorem State.setDIGEST_mem (s : State) (d : Vector Byte 64) : (s.setDIGEST d).mem = s.mem := rfl
@[simp] theorem State.setDIGEST_srcPlan (s : State) (d : Vector Byte 64) : (s.setDIGEST d).srcPlan = s.srcPlan := rfl
@[simp] theorem State.setDIGEST_requests (s : State) (d : Vector Byte 64) : (s.setDIGEST d).requests = s.requests := rfl
@[simp] theorem State.setDIGEST_rst (s : State) (d : Vector Byte 64) : (s.setDIGEST d).rst = s.rst := rfl
@[simp] theorem State.setDIGEST_cmd (s : State) (d : Vector Byte 64) : (s.setDIGEST d).cmd = s.cmd := rfl
@[simp] theorem State.setDIGEST_host (s : State) (d : Vector Byte 64) : (s.setDIGEST d).host = s.host := rfl
@[simp] theorem State.setDIGEST_fresh (s : State) (d : Vector Byte 64) : (s.setDIGEST d).fresh = s.fresh := rfl

@[simp] theorem State.setCmd_V (s : State) (c : Option (BitVec 80)) : (s.setCmd c).V = s.V := rfl
@[simp] theorem State.setCmd_H (s : State) (c : Option (BitVec 80)) : (s.setCmd c).H = s.H := rfl
@[simp] theorem State.setCmd_M (s : State) (c : Option (BitVec 80)) : (s.setCmd c).M = s.M := rfl
@[simp] theorem State.setCmd_BLK (s : State) (c : Option (BitVec 80)) : (s.setCmd c).BLK = s.BLK := rfl
@[simp] theorem State.setCmd_SEQ (s : State) (c : Option (BitVec 80)) : (s.setCmd c).SEQ = s.SEQ := rfl
@[simp] theorem State.setCmd_LAST (s : State) (c : Option (BitVec 80)) : (s.setCmd c).LAST = s.LAST := rfl
@[simp] theorem State.setCmd_T (s : State) (c : Option (BitVec 80)) : (s.setCmd c).T = s.T := rfl
@[simp] theorem State.setCmd_LEN (s : State) (c : Option (BitVec 80)) : (s.setCmd c).LEN = s.LEN := rfl
@[simp] theorem State.setCmd_NN (s : State) (c : Option (BitVec 80)) : (s.setCmd c).NN = s.NN := rfl
@[simp] theorem State.setCmd_CAUSE (s : State) (c : Option (BitVec 80)) : (s.setCmd c).CAUSE = s.CAUSE := rfl
@[simp] theorem State.setCmd_DIGEST (s : State) (c : Option (BitVec 80)) : (s.setCmd c).DIGEST = s.DIGEST := rfl
@[simp] theorem State.setCmd_mem (s : State) (c : Option (BitVec 80)) : (s.setCmd c).mem = s.mem := rfl
@[simp] theorem State.setCmd_srcPlan (s : State) (c : Option (BitVec 80)) : (s.setCmd c).srcPlan = s.srcPlan := rfl
@[simp] theorem State.setCmd_requests (s : State) (c : Option (BitVec 80)) : (s.setCmd c).requests = s.requests := rfl
@[simp] theorem State.setCmd_rst (s : State) (c : Option (BitVec 80)) : (s.setCmd c).rst = s.rst := rfl
@[simp] theorem State.setCmd_cmd (s : State) (c : Option (BitVec 80)) : (s.setCmd c).cmd = c := rfl
@[simp] theorem State.setCmd_host (s : State) (c : Option (BitVec 80)) : (s.setCmd c).host = s.host := rfl
@[simp] theorem State.setCmd_fresh (s : State) (c : Option (BitVec 80)) : (s.setCmd c).fresh = s.fresh := rfl

@[simp] theorem State.setFresh_V (s : State) (n : Nat) : (s.setFresh n).V = s.V := rfl
@[simp] theorem State.setFresh_H (s : State) (n : Nat) : (s.setFresh n).H = s.H := rfl
@[simp] theorem State.setFresh_M (s : State) (n : Nat) : (s.setFresh n).M = s.M := rfl
@[simp] theorem State.setFresh_BLK (s : State) (n : Nat) : (s.setFresh n).BLK = s.BLK := rfl
@[simp] theorem State.setFresh_SEQ (s : State) (n : Nat) : (s.setFresh n).SEQ = s.SEQ := rfl
@[simp] theorem State.setFresh_LAST (s : State) (n : Nat) : (s.setFresh n).LAST = s.LAST := rfl
@[simp] theorem State.setFresh_T (s : State) (n : Nat) : (s.setFresh n).T = s.T := rfl
@[simp] theorem State.setFresh_LEN (s : State) (n : Nat) : (s.setFresh n).LEN = s.LEN := rfl
@[simp] theorem State.setFresh_NN (s : State) (n : Nat) : (s.setFresh n).NN = s.NN := rfl
@[simp] theorem State.setFresh_CAUSE (s : State) (n : Nat) : (s.setFresh n).CAUSE = s.CAUSE := rfl
@[simp] theorem State.setFresh_DIGEST (s : State) (n : Nat) : (s.setFresh n).DIGEST = s.DIGEST := rfl
@[simp] theorem State.setFresh_mem (s : State) (n : Nat) : (s.setFresh n).mem = s.mem := rfl
@[simp] theorem State.setFresh_srcPlan (s : State) (n : Nat) : (s.setFresh n).srcPlan = s.srcPlan := rfl
@[simp] theorem State.setFresh_requests (s : State) (n : Nat) : (s.setFresh n).requests = s.requests := rfl
@[simp] theorem State.setFresh_rst (s : State) (n : Nat) : (s.setFresh n).rst = s.rst := rfl
@[simp] theorem State.setFresh_cmd (s : State) (n : Nat) : (s.setFresh n).cmd = s.cmd := rfl
@[simp] theorem State.setFresh_host (s : State) (n : Nat) : (s.setFresh n).host = s.host := rfl
@[simp] theorem State.setFresh_fresh (s : State) (n : Nat) : (s.setFresh n).fresh = n := rfl

@[simp] theorem State.advance_V (s : State) (p : Phase) (r k : BitVec 4) : (s.advance p r k).V = s.V := rfl
@[simp] theorem State.advance_H (s : State) (p : Phase) (r k : BitVec 4) : (s.advance p r k).H = s.H := rfl
@[simp] theorem State.advance_M (s : State) (p : Phase) (r k : BitVec 4) : (s.advance p r k).M = s.M := rfl
@[simp] theorem State.advance_BLK (s : State) (p : Phase) (r k : BitVec 4) : (s.advance p r k).BLK = s.BLK := rfl
@[simp] theorem State.advance_SEQ (s : State) (p : Phase) (r k : BitVec 4) : (s.advance p r k).SEQ = seqWord p r k := rfl
@[simp] theorem State.advance_LAST (s : State) (p : Phase) (r k : BitVec 4) : (s.advance p r k).LAST = s.LAST := rfl
@[simp] theorem State.advance_T (s : State) (p : Phase) (r k : BitVec 4) : (s.advance p r k).T = s.T := rfl
@[simp] theorem State.advance_LEN (s : State) (p : Phase) (r k : BitVec 4) : (s.advance p r k).LEN = s.LEN := rfl
@[simp] theorem State.advance_NN (s : State) (p : Phase) (r k : BitVec 4) : (s.advance p r k).NN = s.NN := rfl
@[simp] theorem State.advance_CAUSE (s : State) (p : Phase) (r k : BitVec 4) : (s.advance p r k).CAUSE = s.CAUSE := rfl
@[simp] theorem State.advance_DIGEST (s : State) (p : Phase) (r k : BitVec 4) : (s.advance p r k).DIGEST = s.DIGEST := rfl
@[simp] theorem State.advance_mem (s : State) (p : Phase) (r k : BitVec 4) : (s.advance p r k).mem = s.mem := rfl
@[simp] theorem State.advance_srcPlan (s : State) (p : Phase) (r k : BitVec 4) : (s.advance p r k).srcPlan = s.srcPlan := rfl
@[simp] theorem State.advance_requests (s : State) (p : Phase) (r k : BitVec 4) : (s.advance p r k).requests = s.requests := rfl
@[simp] theorem State.advance_rst (s : State) (p : Phase) (r k : BitVec 4) : (s.advance p r k).rst = s.rst := rfl
@[simp] theorem State.advance_cmd (s : State) (p : Phase) (r k : BitVec 4) : (s.advance p r k).cmd = s.cmd := rfl
@[simp] theorem State.advance_host (s : State) (p : Phase) (r k : BitVec 4) : (s.advance p r k).host = s.host := rfl
@[simp] theorem State.advance_fresh (s : State) (p : Phase) (r k : BitVec 4) : (s.advance p r k).fresh = s.fresh := rfl

@[simp] theorem State.raise_V (s : State) (c : BitVec 8) : (s.raise c).V = s.V := rfl
@[simp] theorem State.raise_H (s : State) (c : BitVec 8) : (s.raise c).H = s.H := rfl
@[simp] theorem State.raise_M (s : State) (c : BitVec 8) : (s.raise c).M = s.M := rfl
@[simp] theorem State.raise_BLK (s : State) (c : BitVec 8) : (s.raise c).BLK = s.BLK := rfl
@[simp] theorem State.raise_SEQ (s : State) (c : BitVec 8) : (s.raise c).SEQ = seqWord .error 0 0 := rfl
@[simp] theorem State.raise_LAST (s : State) (c : BitVec 8) : (s.raise c).LAST = s.LAST := rfl
@[simp] theorem State.raise_T (s : State) (c : BitVec 8) : (s.raise c).T = s.T := rfl
@[simp] theorem State.raise_LEN (s : State) (c : BitVec 8) : (s.raise c).LEN = s.LEN := rfl
@[simp] theorem State.raise_NN (s : State) (c : BitVec 8) : (s.raise c).NN = s.NN := rfl
@[simp] theorem State.raise_CAUSE (s : State) (c : BitVec 8) : (s.raise c).CAUSE = c := rfl
@[simp] theorem State.raise_DIGEST (s : State) (c : BitVec 8) : (s.raise c).DIGEST = s.DIGEST := rfl
@[simp] theorem State.raise_mem (s : State) (c : BitVec 8) : (s.raise c).mem = s.mem := rfl
@[simp] theorem State.raise_srcPlan (s : State) (c : BitVec 8) : (s.raise c).srcPlan = s.srcPlan := rfl
@[simp] theorem State.raise_requests (s : State) (c : BitVec 8) : (s.raise c).requests = s.requests := rfl
@[simp] theorem State.raise_rst (s : State) (c : BitVec 8) : (s.raise c).rst = s.rst := rfl
@[simp] theorem State.raise_cmd (s : State) (c : BitVec 8) : (s.raise c).cmd = s.cmd := rfl
@[simp] theorem State.raise_host (s : State) (c : BitVec 8) : (s.raise c).host = s.host := rfl
@[simp] theorem State.raise_fresh (s : State) (c : BitVec 8) : (s.raise c).fresh = s.fresh := rfl

@[simp] theorem State.answered_V (s : State) (off : Word) (n : Nat) : (s.answered off n).V = s.V := rfl
@[simp] theorem State.answered_H (s : State) (off : Word) (n : Nat) : (s.answered off n).H = s.H := rfl
@[simp] theorem State.answered_M (s : State) (off : Word) (n : Nat) : (s.answered off n).M = s.M := rfl
@[simp] theorem State.answered_BLK (s : State) (off : Word) (n : Nat) : (s.answered off n).BLK = s.BLK := rfl
@[simp] theorem State.answered_SEQ (s : State) (off : Word) (n : Nat) : (s.answered off n).SEQ = s.SEQ := rfl
@[simp] theorem State.answered_LAST (s : State) (off : Word) (n : Nat) : (s.answered off n).LAST = s.LAST := rfl
@[simp] theorem State.answered_T (s : State) (off : Word) (n : Nat) : (s.answered off n).T = s.T := rfl
@[simp] theorem State.answered_LEN (s : State) (off : Word) (n : Nat) : (s.answered off n).LEN = s.LEN := rfl
@[simp] theorem State.answered_NN (s : State) (off : Word) (n : Nat) : (s.answered off n).NN = s.NN := rfl
@[simp] theorem State.answered_CAUSE (s : State) (off : Word) (n : Nat) : (s.answered off n).CAUSE = s.CAUSE := rfl
@[simp] theorem State.answered_DIGEST (s : State) (off : Word) (n : Nat) : (s.answered off n).DIGEST = s.DIGEST := rfl
@[simp] theorem State.answered_mem (s : State) (off : Word) (n : Nat) : (s.answered off n).mem = s.mem := rfl
@[simp] theorem State.answered_srcPlan (s : State) (off : Word) (n : Nat) : (s.answered off n).srcPlan = s.srcPlan.tail := rfl
@[simp] theorem State.answered_requests (s : State) (off : Word) (n : Nat) : (s.answered off n).requests = s.requests ++ [⟨off, n⟩] := rfl
@[simp] theorem State.answered_rst (s : State) (off : Word) (n : Nat) : (s.answered off n).rst = s.rst := rfl
@[simp] theorem State.answered_cmd (s : State) (off : Word) (n : Nat) : (s.answered off n).cmd = s.cmd := rfl
@[simp] theorem State.answered_host (s : State) (off : Word) (n : Nat) : (s.answered off n).host = s.host := rfl
@[simp] theorem State.answered_fresh (s : State) (off : Word) (n : Nat) : (s.answered off n).fresh = s.fresh := rfl

@[simp] theorem State.takeFresh_V (s : State) : s.takeFresh.V = s.V := rfl
@[simp] theorem State.takeFresh_H (s : State) : s.takeFresh.H = s.H := rfl
@[simp] theorem State.takeFresh_M (s : State) : s.takeFresh.M = s.M := rfl
@[simp] theorem State.takeFresh_BLK (s : State) : s.takeFresh.BLK = s.BLK := rfl
@[simp] theorem State.takeFresh_SEQ (s : State) : s.takeFresh.SEQ = s.SEQ := rfl
@[simp] theorem State.takeFresh_LAST (s : State) : s.takeFresh.LAST = s.LAST := rfl
@[simp] theorem State.takeFresh_T (s : State) : s.takeFresh.T = s.T := rfl
@[simp] theorem State.takeFresh_LEN (s : State) : s.takeFresh.LEN = s.LEN := rfl
@[simp] theorem State.takeFresh_NN (s : State) : s.takeFresh.NN = s.NN := rfl
@[simp] theorem State.takeFresh_CAUSE (s : State) : s.takeFresh.CAUSE = s.CAUSE := rfl
@[simp] theorem State.takeFresh_DIGEST (s : State) : s.takeFresh.DIGEST = s.DIGEST := rfl
@[simp] theorem State.takeFresh_mem (s : State) : s.takeFresh.mem = s.mem := rfl
@[simp] theorem State.takeFresh_srcPlan (s : State) : s.takeFresh.srcPlan = s.srcPlan := rfl
@[simp] theorem State.takeFresh_requests (s : State) : s.takeFresh.requests = s.requests := rfl
@[simp] theorem State.takeFresh_rst (s : State) : s.takeFresh.rst = s.rst := rfl
@[simp] theorem State.takeFresh_cmd (s : State) : s.takeFresh.cmd = s.cmd := rfl
@[simp] theorem State.takeFresh_host (s : State) : s.takeFresh.host = s.host := rfl
@[simp] theorem State.takeFresh_fresh (s : State) : s.takeFresh.fresh = s.fresh + 64 := rfl

/-! RST writes the block's registers and the model's counter of free values, and nothing else. -/

@[simp] theorem State.resetBlock_SEQ (s : State) : s.resetBlock.SEQ = seqWord .idle 0 0 := rfl
@[simp] theorem State.resetBlock_mem (s : State) : s.resetBlock.mem = s.mem := rfl
@[simp] theorem State.resetBlock_srcPlan (s : State) : s.resetBlock.srcPlan = s.srcPlan := rfl
@[simp] theorem State.resetBlock_requests (s : State) : s.resetBlock.requests = s.requests := rfl
@[simp] theorem State.resetBlock_rst (s : State) : s.resetBlock.rst = s.rst := rfl
@[simp] theorem State.resetBlock_cmd (s : State) : s.resetBlock.cmd = s.cmd := rfl
@[simp] theorem State.resetBlock_host (s : State) : s.resetBlock.host = s.host := rfl

end Sys2Proof.Machine
end

