-- ==== Sys2Proof/Laws/Engine.lean ====
section
/-! SUPPORT. The engine's shared operations, element by element: the mixing primitive, the working vector, the
decoded block, the fold. -/

namespace Sys2Proof.Machine

/-- What four assignments of `mix` do on pairwise different slots. -/
theorem mixHalf_spec (v : Vector Word 16) {a b c d : Fin 16} (x : Word) (p q : Nat)
    (hab : a ≠ b) (hac : a ≠ c) (had : a ≠ d) (hbc : b ≠ c) (hbd : b ≠ d) (hcd : c ≠ d) :
    (mixHalf v a b c d x p q)[a] = v[a] + v[b] + x ∧
    (mixHalf v a b c d x p q)[d] = rotr64 (v[d] ^^^ (v[a] + v[b] + x)) p ∧
    (mixHalf v a b c d x p q)[c] = v[c] + rotr64 (v[d] ^^^ (v[a] + v[b] + x)) p ∧
    (mixHalf v a b c d x p q)[b] = rotr64 (v[b] ^^^ (v[c] + rotr64 (v[d] ^^^ (v[a] + v[b] + x)) p)) q ∧
    ∀ i : Fin 16, i ≠ a → i ≠ b → i ≠ c → i ≠ d → (mixHalf v a b c d x p q)[i] = v[i] := by
  have e1 := Fin.val_ne_of_ne hab
  have e2 := Fin.val_ne_of_ne hac
  have e3 := Fin.val_ne_of_ne had
  have e4 := Fin.val_ne_of_ne hbc
  have e5 := Fin.val_ne_of_ne hbd
  have e6 := Fin.val_ne_of_ne hcd
  refine ⟨?_, ?_, ?_, ?_, fun i h1 h2 h3 h4 => ?_⟩
  · simp [mixHalf, Vector.getElem_set, e1.symm, e2.symm, e3.symm]
  · simp [mixHalf, Vector.getElem_set, e3, e5, e6]
  · simp [mixHalf, Vector.getElem_set, e2, e4, e6.symm, e3]
  · simp [mixHalf, e1, e2, e3, e4.symm, e5.symm, e6.symm]
  · have f1 := Fin.val_ne_of_ne h1.symm
    have f2 := Fin.val_ne_of_ne h2.symm
    have f3 := Fin.val_ne_of_ne h3.symm
    have f4 := Fin.val_ne_of_ne h4.symm
    simp [mixHalf, Vector.getElem_set, f1, f2, f3, f4]

/-- What `mix` does on pairwise different slots (40_compression_engine.md R84): the eight values, and nothing else. -/
theorem mix_spec (v : Vector Word 16) {a b c d : Fin 16} (x y : Word)
    (hab : a ≠ b) (hac : a ≠ c) (had : a ≠ d) (hbc : b ≠ c) (hbd : b ≠ d) (hcd : c ≠ d) :
    MixResult v (mix v a b c d x y) a b c d x y := by
  obtain ⟨ha, hd, hc, hb, ho⟩ := mixHalf_spec v x 32 24 hab hac had hbc hbd hcd
  obtain ⟨ha', hd', hc', hb', ho'⟩ :=
    mixHalf_spec (mixHalf v a b c d x 32 24) y 16 63 hab hac had hbc hbd hcd
  rw [ha, hb, hc, hd] at *
  exact ⟨ha', hb', hc', hd', fun i h1 h2 h3 h4 => (ho' i h1 h2 h3 h4).trans (ho i h1 h2 h3 h4)⟩

/-- The slots of every invocation are pairwise different (R85 (f)). -/
theorem group_ne (k : Fin 8) :
    (group k).a ≠ (group k).b ∧ (group k).a ≠ (group k).c ∧ (group k).a ≠ (group k).d ∧
    (group k).b ≠ (group k).c ∧ (group k).b ≠ (group k).d ∧ (group k).c ≠ (group k).d := by
  revert k
  decide

/-- What one invocation of a round does (R86). -/
theorem invocation_spec (m : Vector Word 16) (r : Fin 12) (k : Fin 8) (v : Vector Word 16) :
    MixResult v (invocation m r k v) (group k).a (group k).b (group k).c (group k).d
      (operandX m r k) (operandY m r k) := by
  obtain ⟨h1, h2, h3, h4, h5, h6⟩ := group_ne k
  exact mix_spec v _ _ h1 h2 h3 h4 h5 h6

/-- The fold, word by word (R91). -/
theorem foldInto_get (h : Vector Word 8) (v : Vector Word 16) (i : Nat) (hi : i < 8) :
    (foldInto h v)[i] = h[i] ^^^ v[i] ^^^ v[i + 8] := by
  simp [foldInto]

/-- The decoded block, word by word (R88). -/
theorem blockWords_get (b : Vector Byte 128) (i : Nat) (hi : i < 16) :
    (blockWords b)[i] = le64 b[8 * i] b[8 * i + 1] b[8 * i + 2] b[8 * i + 3]
      b[8 * i + 4] b[8 * i + 5] b[8 * i + 6] b[8 * i + 7] := by
  simp [blockWords]

/-- The eight words of the hash state followed by the eight of IV, word by word. -/
theorem append_IV_get (h : Vector Word 8) (i : Nat) (hi : i < 8) :
    (show Vector Word 16 from h ++ IV)[i] = h[i] ∧ (show Vector Word 16 from h ++ IV)[8 + i] = IV[i] :=
  ⟨Vector.getElem_append_left (ys := IV) hi,
    (Vector.getElem_append_right (xs := h) (ys := IV) (i := 8 + i) (by omega) (by omega)).trans (by simp)⟩

/-- The working vector, word by word (R87): the hash state below index 8, above it IV but for 12 and 14. -/
theorem workingVector_get (h : Vector Word 8) (t : Word) (last : Bool) (i : Nat) (hi : i < 16) :
    (workingVector h t last)[i] =
      if hl : i < 8 then h[i] else if i = 12 then IV[4] ^^^ t else
      if i = 14 ∧ last = true then ~~~ IV[6] else IV[i - 8] := by
  by_cases hl : i < 8
  · rw [dif_pos hl]
    have e := (append_IV_get h i hl).1
    unfold workingVector
    split <;> simp only [Vector.getElem_set] <;> simp only [show ¬ 12 = i by omega, show ¬ 14 = i by omega, if_false] <;>
      exact e
  · rw [dif_neg hl]
    obtain ⟨j, rfl⟩ : ∃ j, i = 8 + j := ⟨i - 8, by omega⟩
    have e := (append_IV_get h j (by omega)).2
    have e12 := (append_IV_get h 4 (by omega)).2
    have e14 := (append_IV_get h 6 (by omega)).2
    simp only [show 8 + j - 8 = j by omega]
    unfold workingVector
    by_cases h12 : j = 4
    · subst h12
      cases last <;> simp <;> exact e12
    · by_cases h14 : j = 6
      · subst h14
        cases last <;> simp
        · exact e14
        · exact e14
      · cases last <;> simp [show ¬ 12 = 8 + j by omega, show ¬ 14 = 8 + j by omega,
          show ¬ 8 + j = 12 by omega, show ¬ 8 + j = 14 by omega] <;> exact e

theorem extract_append_low {n : Nat} (a : BitVec n) (b : Byte) : (a ++ b).extractLsb' 0 8 = b := by
  ext k hk
  simp [BitVec.getLsbD_append, hk]

theorem extract_append_high {n : Nat} (a : BitVec n) (b : Byte) (k : Nat) :
    (a ++ b).extractLsb' (8 + k) 8 = a.extractLsb' k 8 := by
  ext m hm
  simp only [BitVec.getElem_extractLsb', BitVec.getLsbD_append]
  rw [if_neg (by omega), show 8 + k + m - 8 = k + m by omega]

/-- Byte `j` of eight bytes put together, least significant first, is the `j`th of them (00_scope.md R7). -/
theorem byteOf_le64 (b0 b1 b2 b3 b4 b5 b6 b7 : Byte) :
    byteOf (le64 b0 b1 b2 b3 b4 b5 b6 b7) 0 = b0 ∧ byteOf (le64 b0 b1 b2 b3 b4 b5 b6 b7) 1 = b1 ∧
    byteOf (le64 b0 b1 b2 b3 b4 b5 b6 b7) 2 = b2 ∧ byteOf (le64 b0 b1 b2 b3 b4 b5 b6 b7) 3 = b3 ∧
    byteOf (le64 b0 b1 b2 b3 b4 b5 b6 b7) 4 = b4 ∧ byteOf (le64 b0 b1 b2 b3 b4 b5 b6 b7) 5 = b5 ∧
    byteOf (le64 b0 b1 b2 b3 b4 b5 b6 b7) 6 = b6 ∧ byteOf (le64 b0 b1 b2 b3 b4 b5 b6 b7) 7 = b7 := by
  have hc : ∀ i, byteOf (le64 b0 b1 b2 b3 b4 b5 b6 b7) i =
      (b7 ++ b6 ++ b5 ++ b4 ++ b3 ++ b2 ++ b1 ++ b0).extractLsb' (8 * i) 8 := fun i => rfl
  have e7 : b7.extractLsb' 0 8 = b7 := by ext k hk; simp
  refine ⟨?_, ?_, ?_, ?_, ?_, ?_, ?_, ?_⟩ <;> rw [hc]
  · exact extract_append_low _ _
  · exact (extract_append_high _ _ 0).trans (extract_append_low _ _)
  · exact (extract_append_high _ _ 8).trans ((extract_append_high _ _ 0).trans (extract_append_low _ _))
  · exact (extract_append_high _ _ 16).trans ((extract_append_high _ _ 8).trans
      ((extract_append_high _ _ 0).trans (extract_append_low _ _)))
  · exact (extract_append_high _ _ 24).trans ((extract_append_high _ _ 16).trans ((extract_append_high _ _ 8).trans
      ((extract_append_high _ _ 0).trans (extract_append_low _ _))))
  · exact (extract_append_high _ _ 32).trans ((extract_append_high _ _ 24).trans ((extract_append_high _ _ 16).trans
      ((extract_append_high _ _ 8).trans ((extract_append_high _ _ 0).trans (extract_append_low _ _)))))
  · exact (extract_append_high _ _ 40).trans ((extract_append_high _ _ 32).trans ((extract_append_high _ _ 24).trans
      ((extract_append_high _ _ 16).trans ((extract_append_high _ _ 8).trans ((extract_append_high _ _ 0).trans
      (extract_append_low _ _))))))
  · exact (extract_append_high _ _ 48).trans ((extract_append_high _ _ 40).trans ((extract_append_high _ _ 32).trans
      ((extract_append_high _ _ 24).trans ((extract_append_high _ _ 16).trans ((extract_append_high _ _ 8).trans
      ((extract_append_high _ _ 0).trans e7))))))

end Sys2Proof.Machine
end

