-- ==== Sys2Proof/Laws/Memory.lean ====
section
/-! SUPPORT. The laws of address space SRC: read after write, the canonical form is kept, what an answer carries. -/

namespace Sys2Proof.Machine

/-- A read after a write to the same offset gives the byte written. -/
theorem Memory.read_write_same (m : List Host.Cell) (a : Nat) (b : Byte) :
    Memory.read (Memory.write m a b) a = some b := by
  induction m with
  | nil => simp [Memory.write, Memory.read]
  | cons c m ih =>
    obtain ⟨a', b'⟩ := c
    simp only [Memory.write]
    split
    · simp [Memory.read]
    · split
      · simp [Memory.read]
      · rename_i h1 h2
        simp [Memory.read, Ne.symm h2, ih]

/-- A write leaves every other offset alone. -/
theorem Memory.read_write_other (m : List Host.Cell) {a a' : Nat} (b : Byte) (h : a' ≠ a) :
    Memory.read (Memory.write m a b) a' = Memory.read m a' := by
  induction m with
  | nil => simp [Memory.write, Memory.read, Ne.symm h]
  | cons c m ih =>
    obtain ⟨a₁, b₁⟩ := c
    simp only [Memory.write]
    split
    · simp [Memory.read, Ne.symm h]
    · split
      · rename_i h2
        subst h2
        simp [Memory.read, Ne.symm h]
      · simp [Memory.read, ih]

/-- A write keeps the canonical form from `lo` on. -/
theorem Memory.wfFrom_write (m : List Host.Cell) (lo a : Nat) (b : Byte) (hlo : lo ≤ a) (ha : a < 2 ^ 64)
    (h : Memory.wfFrom lo m = true) : Memory.wfFrom lo (Memory.write m a b) = true := by
  induction m generalizing lo with
  | nil => simp [Memory.write, Memory.wfFrom, hlo]; omega
  | cons c m ih =>
    obtain ⟨a₁, b₁⟩ := c
    simp only [Memory.wfFrom, Bool.and_eq_true, decide_eq_true_eq] at h
    simp only [Memory.write]
    split
    · simp only [Memory.wfFrom, Bool.and_eq_true, decide_eq_true_eq]
      exact ⟨⟨hlo, ha⟩, ⟨by omega, h.1.2⟩, h.2⟩
    · split
      · rename_i h2
        subst h2
        simp only [Memory.wfFrom, Bool.and_eq_true, decide_eq_true_eq]
        exact ⟨⟨hlo, ha⟩, h.2⟩
      · simp only [Memory.wfFrom, Bool.and_eq_true, decide_eq_true_eq]
        exact ⟨h.1, ih (a₁ + 1) (by omega) h.2⟩

/-- A write at a 64-bit offset keeps the canonical form. -/
theorem Memory.wf_write (m : List Host.Cell) (off : BitVec 64) (b : Byte) (h : Memory.wf m = true) :
    Memory.wf (Memory.write m off.toNat b) = true :=
  Memory.wfFrom_write m 0 off.toNat b (Nat.zero_le _) off.isLt h

/-- A message laid out is in canonical form. -/
theorem Memory.wfFrom_ofBytesFrom (msg : List Byte) (a : Nat) :
    Memory.wfFrom a (Memory.ofBytesFrom a msg) = true := by
  induction msg generalizing a with
  | nil => rfl
  | cons b bs ih =>
    simp only [Memory.ofBytesFrom]
    split
    · simp only [Memory.wfFrom, Bool.and_eq_true, decide_eq_true_eq]
      exact ⟨⟨Nat.le_refl _, by assumption⟩, ih (a + 1)⟩
    · rfl

/-- A message laid out is in canonical form. -/
theorem Memory.wf_ofBytes (msg : List Byte) : Memory.wf (Memory.ofBytes msg) = true :=
  Memory.wfFrom_ofBytesFrom msg 0

/-- Byte `i` of a message laid out from `a` on is at offset `a + i`. -/
theorem Memory.read_ofBytesFrom (msg : List Byte) (a i : Nat) (hi : i < msg.length)
    (h : a + msg.length ≤ 2 ^ 64) : Memory.read (Memory.ofBytesFrom a msg) (a + i) = msg[i]? := by
  induction msg generalizing a i with
  | nil => simp at hi
  | cons b bs ih =>
    simp only [List.length_cons] at hi h
    simp only [Memory.ofBytesFrom, show a < 2 ^ 64 by omega, if_true, Memory.read]
    cases i with
    | zero => simp
    | succ i =>
      have := ih (a + 1) i (by omega) (by omega)
      simp only [Nat.add_comm i 1, ← Nat.add_assoc, this]
      split
      · omega
      · simp [Nat.add_comm 1 i]

/-- A message laid out reads back, byte `i` at offset `i`. -/
theorem Memory.read_ofBytes (msg : List Byte) (i : Nat) (hi : i < msg.length) (h : msg.length ≤ 2 ^ 64) :
    Memory.read (Memory.ofBytes msg) i = msg[i]? := by
  simpa [Memory.ofBytes] using Memory.read_ofBytesFrom msg 0 i hi (by omega)

/-- An answer carries at most the bytes asked for. -/
theorem Memory.length_readUpTo_le (m : List Host.Cell) (a n : Nat) : (Memory.readUpTo m a n).length ≤ n := by
  induction n generalizing a with
  | zero => simp [Memory.readUpTo]
  | succ n ih =>
    simp only [Memory.readUpTo]
    split
    · simpa using ih (a + 1)
    · simp

/-- Where every offset asked for holds a byte, the answer is those bytes, all of them. -/
theorem Memory.readUpTo_of_reads (m : List Host.Cell) (a : Nat) (bytes : List Byte)
    (h : ∀ i, i < bytes.length → Memory.read m (a + i) = bytes[i]?) :
    Memory.readUpTo m a bytes.length = bytes := by
  induction bytes generalizing a with
  | nil => rfl
  | cons b bs ih =>
    have h0 : Memory.read m a = some b := by simpa using h 0 (by simp)
    simp only [List.length_cons, Memory.readUpTo, h0]
    rw [ih (a + 1)]
    intro i hi
    have := h (i + 1) (by simpa using hi)
    simpa [Nat.add_assoc, Nat.add_comm 1 i] using this

/-- How many bytes an answer carries depends on which offsets hold a byte, not on the bytes. -/
theorem Memory.length_readUpTo_congr (m m' : List Host.Cell)
    (h : ∀ a, (Memory.read m a).isSome = (Memory.read m' a).isSome) (a n : Nat) :
    (Memory.readUpTo m a n).length = (Memory.readUpTo m' a n).length := by
  induction n generalizing a with
  | zero => rfl
  | succ n ih =>
    have := h a
    simp only [Memory.readUpTo]
    cases h1 : Memory.read m a <;> cases h2 : Memory.read m' a <;> simp_all

end Sys2Proof.Machine
end

