-- ==== Sys2Proof/Laws/Ops.lean ====
section
/-! SUPPORT. One lemma for each shared operation, saying everything it can do; later proofs cite these and do not
unfold the operation. -/

namespace Sys2Proof.Machine

/-! The byte source and MemRead. -/

/-- A source that serves answers with what it holds. -/
theorem sourceAnswer_of_serves (s : State) (off : Word) (n : Nat)
    (h : s.srcPlan = [] ∨ s.srcPlan.head? = some .serve) :
    sourceAnswer s off n = .ok (Memory.readUpTo s.mem off.toNat n) := by
  cases hp : s.srcPlan with
  | nil => simp [sourceAnswer, hp]
  | cons act rest =>
    have : act = .serve := by simpa [hp] using h
    simp [sourceAnswer, hp, this]

/-- MemRead on an `ok` answer no longer than asked goes on with the bytes. -/
theorem memRead_of_ok {s : State} {off : Word} {n : Nat} {bytes : List Byte} (k : List Byte → State → Out)
    (h : sourceAnswer s off n = .ok bytes) (hl : bytes.length ≤ n) :
    memRead s off n k = k bytes (s.answered off n) := by
  simp [memRead, h, Nat.not_lt.mpr hl]

/-- MemRead on an answer longer than asked stops. -/
theorem memRead_of_longer {s : State} {off : Word} {n : Nat} {bytes : List Byte} (k : List Byte → State → Out)
    (h : sourceAnswer s off n = .ok bytes) (hl : n < bytes.length) :
    memRead s off n k = .refused .answerLongerThanAsked := by
  simp [memRead, h, hl]

/-- Everything MemRead can do when it is refused: the source gives more bytes than asked for, or what follows is
refused. -/
theorem memRead_refused {s : State} {off : Word} {n : Nat} {k : List Byte → State → Out} {e : Refusal}
    (h : memRead s off n k = .refused e) :
    (e = .answerLongerThanAsked ∧ ∃ bytes rest, s.srcPlan = .give bytes :: rest ∧ n < bytes.length) ∨
    ∃ bytes, k bytes (s.answered off n) = .refused e := by
  cases ha : sourceAnswer s off n with
  | silent => simp [memRead, ha] at h
  | err code => simp [memRead, ha] at h
  | ok bytes =>
    simp only [memRead, ha] at h
    split at h
    · rename_i hlt
      refine .inl ⟨(Host.Outcome.refused.inj h).symm, ?_⟩
      have hread := Memory.length_readUpTo_le s.mem off.toNat n
      unfold sourceAnswer at ha
      split at ha <;> cases ha
      · omega
      · omega
      · rename_i hp
        exact ⟨_, _, hp, hlt⟩
    · exact .inr ⟨bytes, h⟩

/-- MemRead on an `err` answer raises its code. -/
theorem memRead_of_err {s : State} {off : Word} {n : Nat} {code : Byte} (k : List Byte → State → Out)
    (h : sourceAnswer s off n = .err code) : memRead s off n k = .next ((s.answered off n).raise code) := by
  simp [memRead, h]

/-- Everything MemRead can do when it answers a next state: no answer and nothing changed, an exception, or going on
with at most the bytes asked for. -/
theorem memRead_next {s t : State} {off : Word} {n : Nat} {k : List Byte → State → Out}
    (h : memRead s off n k = .next t) :
    (sourceAnswer s off n = .silent ∧ t = s) ∨
    (∃ code, sourceAnswer s off n = .err code ∧ t = (s.answered off n).raise code) ∨
    ∃ bytes, sourceAnswer s off n = .ok bytes ∧ bytes.length ≤ n ∧ k bytes (s.answered off n) = .next t := by
  cases ha : sourceAnswer s off n with
  | silent => simp only [memRead, ha, Host.Outcome.next.injEq] at h; exact .inl ⟨rfl, h.symm⟩
  | err code => simp only [memRead, ha, Host.Outcome.next.injEq] at h; exact .inr (.inl ⟨code, rfl, h.symm⟩)
  | ok bytes =>
    simp only [memRead, ha] at h
    split at h
    · cases h
    · exact .inr (.inr ⟨bytes, rfl, by omega, h⟩)

/-- MemRead never faults unless what follows it does. -/
theorem memRead_fault {s : State} {off : Word} {n : Nat} {k : List Byte → State → Out} {f : Fault}
    (h : memRead s off n k = .fault f) : ∃ bytes, k bytes (s.answered off n) = .fault f := by
  cases ha : sourceAnswer s off n with
  | silent => simp [memRead, ha] at h
  | err code => simp [memRead, ha] at h
  | ok bytes =>
    simp only [memRead, ha] at h
    split at h
    · cases h
    · exact ⟨bytes, h⟩

/-! Byte vectors, element by element. -/

theorem blockOf_get (bytes : List Byte) (j : Nat) (h : j < 128) : (blockOf bytes)[j] = bytes.getD j 0 := by
  simp [blockOf]

theorem memWrite_get (d : Vector Byte 64) (j n : Nat) (bytes : List Byte) (i : Nat) (h : i < 64) :
    (memWrite d j n bytes)[i] = if j ≤ i ∧ i < j + n then bytes.getD (i - j) 0 else d[i] := by
  simp [memWrite]

theorem freeDigest_get (n j : Nat) (h : j < 64) : (freeDigest n)[j] = Config.freeByte (n + j) := by
  simp [freeDigest]

theorem length_serialise (h : Vector Word 8) : (serialise h).length = 64 := by
  simp [serialise]

theorem serialise_get (h : Vector Word 8) (j : Nat) (hj : j < 64) :
    (serialise h)[j]'(by rw [length_serialise]; exact hj) = byteOf (h[j / 8]'(by omega)) (j % 8) := by
  unfold serialise
  rw [List.getElem_ofFn]

/-- The bytes EMIT writes: byte `j` of the hash state serialised, below the digest length
(41_digest_driver.md R116 lines 1 and 2). -/
theorem emitted_get (d : Vector Byte 64) (h : Vector Word 8) (nn : BitVec 8) (j : Nat) (hj : j < 64)
    (hn : j < nn.toNat) :
    (memWrite d 0 nn.toNat (digestBytes h nn))[j] = byteOf (h[j / 8]'(by omega)) (j % 8) := by
  rw [memWrite_get _ _ _ _ _ hj, if_pos ⟨Nat.zero_le j, by omega⟩, Nat.sub_zero, digestBytes, List.getD,
    List.getElem?_take_of_lt hn, List.getElem?_eq_getElem (by rw [length_serialise]; exact hj), Option.getD_some,
    serialise_get h j hj]

/-! The host's move. -/

@[simp] theorem hostMove_nil (s : State) (h : s.host = []) : hostMove s = s := by
  simp [hostMove, h]

/-- The host writes no register of the block (10_state.md R25). -/
theorem hostMove_registers (s : State) :
    (hostMove s).V = s.V ∧ (hostMove s).H = s.H ∧ (hostMove s).M = s.M ∧ (hostMove s).BLK = s.BLK ∧
    (hostMove s).SEQ = s.SEQ ∧ (hostMove s).LAST = s.LAST ∧ (hostMove s).T = s.T ∧ (hostMove s).LEN = s.LEN ∧
    (hostMove s).NN = s.NN ∧ (hostMove s).CAUSE = s.CAUSE ∧ (hostMove s).DIGEST = s.DIGEST ∧
    (hostMove s).requests = s.requests ∧ (hostMove s).fresh = s.fresh := by
  unfold hostMove
  split
  · simp
  · rename_i act rest _
    cases act <;> simp [hostAct]

/-- The host keeps the source's contents in canonical form. -/
theorem hostMove_wf (s : State) (h : Memory.wf s.mem = true) : Memory.wf (hostMove s).mem = true := by
  unfold hostMove
  split
  · exact h
  · rename_i act rest _
    cases act with
    | attach msg plan => exact Memory.wf_ofBytes msg
    | poke off b => exact Memory.wf_write s.mem off b h
    | _ => exact h

/-- What the port accepts is a START, on CMD, while STATUS is not BUSY. -/
theorem accepted_some {s : State} {i : Instr} (h : accepted s = some i) :
    ∃ w, s.cmd = some w ∧ s.status ≠ .busy ∧ opField w = opStart ∧ i = .start (nnField w) (lenField w) := by
  unfold accepted at h
  split at h
  · cases h
  · rename_i w hw
    split at h
    · cases h
    · rename_i hb
      refine ⟨w, hw, hb, ?_⟩
      by_cases ho : opField w = opStart
      · simp only [decode, decodeCommand, ho, if_true, Decoded.instr?, Option.some.injEq] at h
        exact ⟨ho, h.symm⟩
      · simp [decode, decodeCommand, ho, Decoded.instr?] at h

end Sys2Proof.Machine
end

