-- ==== Sys2Proof/Laws/PerInstr.lean ====
section
/-! SUPPORT. The shape of every operation's word: which port it appears on (30_encoding.md R60), the one command
code (R66), and in format M the bit that "is always 0 in a legal word" (R61). -/

/-- START is a format H word with `op = 0x01`; every other operation is a format M word with bit 3 clear. -/
def Sys2Proof.Laws.WordShape.Statement (i : Sys2Proof.Instr) : Prop :=
  match Sys2Proof.encode i with
  | .command w => (∃ nn len, i = .start nn len) ∧ Sys2Proof.opField w = Sys2Proof.opStart
  | .sequencer w => (∀ nn len, i ≠ .start nn len) ∧ w.getLsbD 3 = false

namespace Sys2Proof.Laws.WordShape

/-- The `op` field of a command word is the `op` put there. -/
theorem opField_commandWord (op nn : BitVec 8) (len : BitVec 64) : opField (commandWord op nn len) = op := by
  unfold opField commandWord
  ext i hi
  simp only [BitVec.getElem_extractLsb', BitVec.getLsbD_cast, BitVec.getLsbD_append]
  simp [show ¬ (72 + i < 64) by omega, show ¬ (72 + i - 64 < 8) by omega,
    show 72 + i - 64 - 8 = i by omega, BitVec.getLsbD_eq_getElem hi]

theorem start (nn : BitVec 8) (len : BitVec 64) : Statement (.start nn len) :=
  ⟨⟨nn, len, rfl⟩, opField_commandWord opStart nn len⟩
theorem init : Statement .init := ⟨fun _ _ => Instr.noConfusion, rfl⟩
theorem sel : Statement .sel := ⟨fun _ _ => Instr.noConfusion, rfl⟩
theorem loadn : Statement .loadn := ⟨fun _ _ => Instr.noConfusion, rfl⟩
theorem loadf : Statement .loadf := ⟨fun _ _ => Instr.noConfusion, rfl⟩
theorem vset : Statement .vset := ⟨fun _ _ => Instr.noConfusion, rfl⟩
theorem mdec : Statement .mdec := ⟨fun _ _ => Instr.noConfusion, rfl⟩
theorem g0 (r : Fin 12) : Statement (.g0 r) := ⟨fun _ _ => Instr.noConfusion, by revert r; decide⟩
theorem g1 (r : Fin 12) : Statement (.g1 r) := ⟨fun _ _ => Instr.noConfusion, by revert r; decide⟩
theorem g2 (r : Fin 12) : Statement (.g2 r) := ⟨fun _ _ => Instr.noConfusion, by revert r; decide⟩
theorem g3 (r : Fin 12) : Statement (.g3 r) := ⟨fun _ _ => Instr.noConfusion, by revert r; decide⟩
theorem g4 (r : Fin 12) : Statement (.g4 r) := ⟨fun _ _ => Instr.noConfusion, by revert r; decide⟩
theorem g5 (r : Fin 12) : Statement (.g5 r) := ⟨fun _ _ => Instr.noConfusion, by revert r; decide⟩
theorem g6 (r : Fin 12) : Statement (.g6 r) := ⟨fun _ _ => Instr.noConfusion, by revert r; decide⟩
theorem g7 (r : Fin 12) : Statement (.g7 r) := ⟨fun _ _ => Instr.noConfusion, by revert r; decide⟩
theorem fold : Statement .fold := ⟨fun _ _ => Instr.noConfusion, rfl⟩
theorem emit : Statement .emit := ⟨fun _ _ => Instr.noConfusion, rfl⟩
theorem idle : Statement .idle := ⟨fun _ _ => Instr.noConfusion, rfl⟩
theorem done : Statement .done := ⟨fun _ _ => Instr.noConfusion, rfl⟩
theorem error : Statement .error := ⟨fun _ _ => Instr.noConfusion, rfl⟩

end Sys2Proof.Laws.WordShape
end

