-- ==== Sys2Proof/Laws/Run.lean ====
section
/-! SUPPORT. Runs, one step and several steps at a time. -/

namespace Sys2Proof.Machine

@[simp] theorem runSteps_zero (s : State) : runSteps 0 s = .next s := rfl

/-- A run whose first step answers a next state goes on from there. -/
theorem runSteps_succ_of_next {s t : State} (h : step s = .next t) (k : Nat) : runSteps (k + 1) s = runSteps k t := by
  have h' : Sys2Proof.core.step s = .next t := h
  simp only [runSteps, Host.Core.run, h']
  rfl

/-- A run whose first step faults has faulted. -/
theorem runSteps_succ_of_fault {s : State} {f : Fault} (h : step s = .fault f) (k : Nat) :
    runSteps (k + 1) s = .fault f := by
  have h' : Sys2Proof.core.step s = .fault f := h
  simp only [runSteps, Host.Core.run, h']
  rfl

/-- A run whose first step is refused has stopped. -/
theorem runSteps_succ_of_refused {s : State} {r : Refusal} (h : step s = .refused r) (k : Nat) :
    runSteps (k + 1) s = .refused r := by
  have h' : Sys2Proof.core.step s = .refused r := h
  simp only [runSteps, Host.Core.run, h']
  rfl

/-- A run of `m + n` steps is a run of `n` steps after one of `m`. -/
theorem runSteps_add_of_next {s t : State} {m : Nat} (h : runSteps m s = .next t) (n : Nat) :
    runSteps (m + n) s = runSteps n t := by
  induction m generalizing s with
  | zero =>
    rw [runSteps_zero, Host.Outcome.next.injEq] at h
    rw [h, Nat.zero_add]
  | succ m ih =>
    cases hs : step s with
    | next u =>
      rw [runSteps_succ_of_next hs] at h
      rw [Nat.succ_add, runSteps_succ_of_next hs]
      exact ih h
    | fault f =>
      rw [runSteps_succ_of_fault hs] at h
      cases h
    | refused r =>
      rw [runSteps_succ_of_refused hs] at h
      cases h

end Sys2Proof.Machine
end

