-- ==== Sys2Proof/Laws/Safety.lean ====
section
/-! SUPPORT. What the invariant of a phase reads: six registers and nothing else. -/

namespace Sys2Proof.Machine

/-- The invariant of a phase is the same in two states with the same NN, T, LEN, LAST, H and DIGEST. -/
theorem phaseInv_congr {s t : State} (i : Instr) (hNN : t.NN = s.NN) (hT : t.T = s.T) (hLEN : t.LEN = s.LEN)
    (hLAST : t.LAST = s.LAST) (hH : t.H = s.H) (hDIGEST : t.DIGEST = s.DIGEST) : PhaseInv t i ↔ PhaseInv s i := by
  cases i <;> simp only [PhaseInv, CounterInv, LoadedInv, DigestInv, hNN, hT, hLEN, hLAST, hH, hDIGEST]

/-- What holds from a load to the fold is the same in two states with the same T, LEN and LAST. -/
theorem loadedInv_congr {s t : State} (hT : t.T = s.T) (hLEN : t.LEN = s.LEN) (hLAST : t.LAST = s.LAST) :
    LoadedInv t ↔ LoadedInv s := by
  simp only [LoadedInv, hT, hLEN, hLAST]

/-- What holds at SEL is the same in two states with the same T and LEN. -/
theorem counterInv_congr {s t : State} (hT : t.T = s.T) (hLEN : t.LEN = s.LEN) : CounterInv t ↔ CounterInv s := by
  simp only [CounterInv, hT, hLEN]

end Sys2Proof.Machine
end

