-- ==== Sys2Proof/Laws/Step.lean ====
section
/-! SUPPORT. What the block's move can do, said once. -/

namespace Sys2Proof.Machine

/-- Everything the block's move is when SEQ is legal: RST, else a command the port accepts, else the operation in
SEQ. -/
theorem blockMove_of_legal {s : State} {i : Instr} (h : decode (.sequencer s.SEQ) = .ok i) :
    blockMove s = if s.rst then .next s.resetBlock else exec ((accepted s).getD i) s := by
  unfold blockMove nextOperation
  rw [h]
  cases accepted s <;> rfl

/-- Everything the block's move is when SEQ holds a reserved word: RST, else stuck. -/
theorem blockMove_of_reserved {s : State} {e : DecodeError} (h : decode (.sequencer s.SEQ) = .bad e) :
    blockMove s = if s.rst then .next s.resetBlock else .fault .reservedSequencerWord := by
  unfold blockMove nextOperation
  rw [h]
  rfl

/-- While STATUS is BUSY nothing is accepted. -/
theorem accepted_of_busy {s : State} (h : s.status = .busy) : accepted s = none := by
  unfold accepted
  split
  · rfl
  · rw [if_pos h]

/-- With nothing on CMD nothing is accepted. -/
theorem accepted_of_noCommand {s : State} (h : s.cmd = none) : accepted s = none := by
  unfold accepted
  rw [h]

/-- A block that is busy and left alone runs the operation in SEQ. -/
theorem step_of_busy {s : State} {i : Instr} (hr : s.rst = false) (hh : s.host = []) (hb : s.status = .busy)
    (h : decode (.sequencer s.SEQ) = .ok i) : step s = exec i s := by
  rw [step, hostMove_nil s hh, blockMove_of_legal h, hr, accepted_of_busy hb]
  rfl

end Sys2Proof.Machine
end

