-- ==== Sys2Proof/Tests/Slice0.lean ====
section
/-! SUPPORT. Small tests, each of one step or one operation, with results taken from 95_test_vectors.md or from the
worked example of the rule named; and a witness for the hypotheses of every statement that has some. -/

namespace Sys2Proof.Tests

open Sys2Proof Sys2Proof.Machine

/-- The next state, if there is one. -/
def after (o : Out) : Option State :=
  match o with
  | .next t => some t
  | .fault _ => none
  | .refused _ => none

/-- H after INIT with NN = 64 (R111). -/
def hash64 : Vector Word 8 :=
  #v[0x6A09E667F2BDC948, 0xBB67AE8584CAA73B, 0x3C6EF372FE94F82B, 0xA54FF53A5F1D36F1,
     0x510E527FADE682D1, 0x9B05688C2B3E6C1F, 0x1F83D9ABFB41BD6B, 0x5BE0CD19137E2179]

/-- The block "abc", zero padded (95_test_vectors.md section 4). -/
def abcBlock : Vector Byte 128 := blockOf [0x61, 0x62, 0x63]

/-- The message words of "abc" (R88). -/
def abcWords : Vector Word 16 := #v[0x636261, 0, 0, 0, 0, 0, 0, 0, 0, 0, 0, 0, 0, 0, 0, 0]

/-- The run on "abc" as LOADF leaves it: T = 3, LAST = 1 (section 4). -/
def abcLoaded : State :=
  { State.reset with H := hash64, BLK := abcBlock, SEQ := 0x500, LAST := true, T := 3, LEN := 3, NN := 64 }

/-- The same with the working vector given in four columns, as the examples of R93 to R100 list them. -/
def abcMixing (v : Vector Word 16) : State := { abcLoaded with V := v, M := abcWords }

/-- The byte source holds the bytes 0, 1, 2, … of `pattern n`. -/
def pattern (n : Nat) : List Byte := (List.range n).map (BitVec.ofNat 8)

/-- A block about to load, with a byte source holding a message. -/
def loading (t len : Word) (msg : List Byte) (plan : List SrcAct) : State :=
  { State.reset with T := t, LEN := len, NN := 64, mem := Memory.ofBytes msg, srcPlan := plan, BLK := Vector.replicate 128 0xEE }

/-! Ill-formed operations: START asks for 0 or for more than 64 bytes. -/

theorem test_wellFormed_refuses_nn_0 : (Instr.start 0 3).wellFormed = false := by decide
theorem test_wellFormed_refuses_nn_65 : (Instr.start 65 3).wellFormed = false := by decide
theorem test_wellFormed_takes_1_and_64 : (Instr.start 1 0).wellFormed = true ∧ (Instr.start 64 0).wellFormed = true := by
  decide

/-! Encodings (R63, R66), and what the host asks of them. -/

theorem test_encode_start : encode (.start 64 3) = .command 0x01400000000000000003#80 := by decide
theorem test_encode_g5_3 : encode (.g5 3) = .sequencer 0x735#12 := by decide
theorem test_encode_g7_11 : encode (.g7 11) = .sequencer 0x7B7#12 := by decide
theorem test_decode_reserved_phase : decode (.sequencer 0xC00#12) = .bad .reservedPhase := by decide
theorem test_decode_reserved_round : decode (.sequencer 0x7C0#12) = .bad .reservedRound := by decide
theorem test_decode_reserved_invocation : decode (.sequencer 0x708#12) = .bad .reservedInvocation := by decide
theorem test_decode_operand_elsewhere : decode (.sequencer 0x510#12) = .bad .nonzeroOperand := by decide
theorem test_decode_reserved_command : decode (.command 0x02400000000000000003#80) = .bad .reservedOp := by decide
theorem test_decodeTableWord_g4 : decodeTableWord 16 0x7A4 = some (.g4 10) := by decide
theorem test_decodeTableWord_start : decodeTableWord 80 0x01200000000000000081 = some (.start 32 129) := by decide
theorem test_fetchWord_g3 : (after (step (State.reset.withFetchWord 16 0x793))).map (·.SEQ) = some 0x794#12 := by decide
theorem test_fetchWord_start :
    (after (step (State.reset.withFetchWord 80 0x01400000000000000003))).map (fun t => (t.NN, t.LEN, t.SEQ)) =
      some (64#8, 3#64, 0x100#12) := by decide

/-! Arithmetic (R6, R7, R83, R85). -/

theorem test_rotr64 :
    rotr64 0x0123456789ABCDEF 32 = 0x89ABCDEF01234567 ∧ rotr64 0x0123456789ABCDEF 24 = 0xABCDEF0123456789 ∧
    rotr64 0x0123456789ABCDEF 16 = 0xCDEF0123456789AB ∧ rotr64 0x0123456789ABCDEF 63 = 0x02468ACF13579BDE := by decide
theorem test_le64 : le64 0 1 2 3 4 5 6 7 = 0x0706050403020100 := by decide
theorem test_byteOf : byteOf 0x0D4D1C983FA580BA 0 = 0xBA ∧ byteOf 0x0D4D1C983FA580BA 7 = 0x0D := by decide

/-- R85 (c): with zeros and x = 1. -/
theorem test_mix_x :
    let w := mix (Vector.replicate 16 0) 0 1 2 3 1 0
    w[0] = 0x0000000000000101 ∧ w[1] = 0x0202000200020200 ∧ w[2] = 0x0101000100010000 ∧ w[3] = 0x0101000000010000 := by
  decide

/-- R85 (c): with zeros and y = 1, so x and y are not interchangeable. -/
theorem test_mix_y :
    let w := mix (Vector.replicate 16 0) 0 1 2 3 0 1
    w[0] = 1 ∧ w[1] = 0x0002000000000000 ∧ w[2] = 0x0001000000000000 ∧ w[3] = 0x0001000000000000 := by decide

/-- R85 (d): all ones, every addition wraps. -/
theorem test_mix_wraps :
    let w := mix (Vector.replicate 16 0xFFFFFFFFFFFFFFFF) 0 1 2 3 0xFFFFFFFFFFFFFFFF 0xFFFFFFFFFFFFFFFF
    w[0] = 0x000000FFFFFFFDFC ∧ w[1] = 0xFBF801FBFE0403FD ∧ w[2] = 0xFDFC000200FDFFFE ∧ w[3] = 0xFDFC000000FDFFFF := by
  decide

/-! START (95_test_vectors.md section 3). -/

theorem test_start :
    (after (exec (.start 64 3) { State.reset with SEQ := 0xA00 })).map (fun t => (t.NN, t.LEN, t.SEQ, readStatus t)) =
      some (64#8, 3#64, 0x100#12, 1#2) := by decide
theorem test_start_held : exec (.start 64 3) abcLoaded = .next abcLoaded := rfl

/-! INIT (R111). -/

theorem test_init : (after (exec .init { State.reset with NN := 64 })).map (·.H) = some hash64 := by decide
theorem test_init_20 : (after (exec .init { State.reset with NN := 20, T := 7 })).map (fun t => (t.H[0], t.T, t.SEQ)) =
    some (0x6A09E667F2BDC91C, 0, 0x200#12) := by decide

/-! SEL (R112, section 3). -/

theorem test_sel_exact_multiple : (after (exec .sel { State.reset with LEN := 256, T := 128 })).map (·.SEQ) = some 0x400#12 := by
  decide
theorem test_sel_more : (after (exec .sel { State.reset with LEN := 257, T := 128 })).map (·.SEQ) = some 0x300#12 := by decide

/-! LOADN (R113, section 3). -/

theorem test_loadn :
    (after (exec .loadn (loading 0 129 (pattern 129) []))).map (fun t => (t.BLK[0], t.BLK[127], t.T, t.LAST, t.SEQ)) =
      some (0x00, 0x7F, 128, false, 0x500#12) := by decide +kernel
theorem test_loadn_short :
    (after (exec .loadn (loading 128 300 (pattern 200) []))).map (fun t => (t.CAUSE, t.SEQ, t.BLK[0], t.T)) =
      some (3#8, 0xB00#12, 0xEE, 128) := by decide +kernel

/-! LOADF (R114, section 3): the stale bytes of the block before do not stay. -/

theorem test_loadf :
    (after (exec .loadf (loading 128 129 (pattern 129) []))).map (fun t => (t.BLK[0], t.BLK[1], t.BLK[127], t.T, t.LAST, t.SEQ)) =
      some (0x80, 0x00, 0x00, 129, true, 0x500#12) := by decide
theorem test_loadf_err :
    (after (exec .loadf (loading 0 0 [] [.fail 1]))).map (fun t => (t.CAUSE, t.SEQ, t.requests)) =
      some (1#8, 0xB00#12, [⟨0, 0⟩]) := by decide

/-! VSET (R87, section 3). -/

theorem test_vset_last :
    (after (exec .vset abcLoaded)).map (fun t => (t.V[12], t.V[13], t.V[14], t.V[15], t.SEQ)) =
      some (0x510E527FADE682D2, 0x9B05688C2B3E6C1F, 0xE07C265404BE4294, 0x5BE0CD19137E2179, 0x600#12) := by decide
theorem test_vset_not_last :
    (after (exec .vset { abcLoaded with T := 128, LAST := false })).map (fun t => (t.V[0], t.V[12], t.V[14])) =
      some (0x6A09E667F2BDC948, 0x510E527FADE68251, 0x1F83D9ABFB41BD6B) := by decide

/-! MDEC (R88). -/

theorem test_mdec : (after (exec .mdec abcLoaded)).map (fun t => (t.M, t.SEQ)) = some (abcWords, 0x700#12) := by decide
theorem test_mdec_order :
    (after (exec .mdec { abcLoaded with BLK := blockOf (pattern 128) })).map (fun t => (t.M[0], t.M[1], t.M[15])) =
      some (0x0706050403020100, 0x0F0E0D0C0B0A0908, 0x7F7E7D7C7B7A7978) := by decide

/-! G0 to G7, the examples of R93 to R100 (round 0 of "abc"); and the SEQ advances of section 3. -/

theorem test_g0 :
    (after (exec (.g0 0) (abcMixing (workingVector hash64 3 true)))).map (fun t => (t.V[0], t.V[4], t.V[8], t.V[12], t.SEQ)) =
      some (0xF0C9AA0F86491DEA, 0xB7DEFC3D0277E11F, 0xEE5E0F39647A9FFF, 0x7772FC2886A76C5F, 0x701#12) := by decide
theorem test_g1 :
    (after (exec (.g1 0) (abcMixing (workingVector hash64 3 true)))).map (fun t => (t.V[1], t.V[5], t.V[9], t.V[13], t.SEQ)) =
      some (0x63B7DEDF4A4E5AD3, 0xED49C30CD311D50E, 0x7BEE264BF3CDADFE, 0x254EF880A19A8726, 0x702#12) := by decide
theorem test_g2 :
    (after (exec (.g2 0) (abcMixing (workingVector hash64 3 true)))).map (fun t => (t.V[2], t.V[6], t.V[10], t.V[14], t.SEQ)) =
      some (0xBE50EB454E0A93D7, 0xA056671704B00D71, 0xB2752DADD66BD8F9, 0x789D43381C47F584, 0x703#12) := by decide
theorem test_g3 :
    (after (exec (.g3 0) (abcMixing (workingVector hash64 3 true)))).map (fun t => (t.V[3], t.V[7], t.V[11], t.V[15], t.SEQ)) =
      some (0x949804B0483EAD14, 0x75E6432FC4661B06, 0xA99463CB37905929, 0xA25EF57D7DA312EE, 0x704#12) := by decide

/-- V after the four columns of round 0: the results of R93 to R96. -/
def abcColumns : Vector Word 16 :=
  #v[0xF0C9AA0F86491DEA, 0x63B7DEDF4A4E5AD3, 0xBE50EB454E0A93D7, 0x949804B0483EAD14,
     0xB7DEFC3D0277E11F, 0xED49C30CD311D50E, 0xA056671704B00D71, 0x75E6432FC4661B06,
     0xEE5E0F39647A9FFF, 0x7BEE264BF3CDADFE, 0xB2752DADD66BD8F9, 0xA99463CB37905929,
     0x7772FC2886A76C5F, 0x254EF880A19A8726, 0x789D43381C47F584, 0xA25EF57D7DA312EE]

theorem test_g4 :
    (after (exec (.g4 0) (abcMixing abcColumns))).map (fun t => (t.V[0], t.V[5], t.V[10], t.V[15], t.SEQ)) =
      some (0x86B7C1568029BB79, 0xA447C850AA694A7E, 0xFA87B01273FA6DBE, 0x2318A24E2140FC64, 0x705#12) := by decide
theorem test_g5 :
    (after (exec (.g5 0) (abcMixing abcColumns))).map (fun t => (t.V[1], t.V[6], t.V[11], t.V[12], t.SEQ)) =
      some (0xC12CBCC809FF59F3, 0xDE080F1BB1C0F84B, 0x521A715C63E08D8A, 0xE02D0975B8D37A83, 0x706#12) := by decide
theorem test_g6 :
    (after (exec (.g6 0) (abcMixing abcColumns))).map (fun t => (t.V[2], t.V[7], t.V[8], t.V[13], t.SEQ)) =
      some (0xC6A5214CC0EACA8E, 0x595CB8A9A1ACA66C, 0xBEC3AE837EAC4887, 0x1C7B754F08B7D193, 0x707#12) := by decide
theorem test_g7 :
    (after (exec (.g7 0) (abcMixing abcColumns))).map (fun t => (t.V[3], t.V[4], t.V[9], t.V[14], t.SEQ)) =
      some (0x0C87CD524C14CC5D, 0x44EE6039BD86A9F7, 0x6267FC79DF9D6AD1, 0x8F885A76B6E578FE, 0x710#12) := by decide
theorem test_g7_last_round : (after (exec (.g7 11) abcLoaded)).map (·.SEQ) = some 0x800#12 := by decide

/-- All twelve rounds: the first and last words of V after round 11 of "abc" (section 4). -/
theorem test_rounds_abc :
    let v := rounds abcWords (workingVector hash64 3 true)
    v[0] = 0x12EF8A641EC4F6D6 ∧ v[8] = 0x75AB709BD3DCBF24 ∧ v[15] = 0xE813A23C60AF3B82 := by decide +kernel

/-! The published digests of "" and "abc" (95_test_vectors.md section 1), by the function of R118. -/

theorem test_digest_empty :
    digest [] 64 =
      [0x78, 0x6a, 0x02, 0xf7, 0x42, 0x01, 0x59, 0x03, 0xc6, 0xc6, 0xfd, 0x85, 0x25, 0x52, 0xd2, 0x72,
       0x91, 0x2f, 0x47, 0x40, 0xe1, 0x58, 0x47, 0x61, 0x8a, 0x86, 0xe2, 0x17, 0xf7, 0x1f, 0x54, 0x19,
       0xd2, 0x5e, 0x10, 0x31, 0xaf, 0xee, 0x58, 0x53, 0x13, 0x89, 0x64, 0x44, 0x93, 0x4e, 0xb0, 0x4b,
       0x90, 0x3a, 0x68, 0x5b, 0x14, 0x48, 0xb7, 0x55, 0xd5, 0x6f, 0x70, 0x1a, 0xfe, 0x9b, 0xe2, 0xce] := by
  decide +kernel
theorem test_digest_abc_32 :
    digest [0x61, 0x62, 0x63] 32 =
      [0xbd, 0xdd, 0x81, 0x3c, 0x63, 0x42, 0x39, 0x72, 0x31, 0x71, 0xef, 0x3f, 0xee, 0x98, 0x57, 0x9b,
       0x94, 0x96, 0x4e, 0x3b, 0xb1, 0xcb, 0x3e, 0x42, 0x72, 0x62, 0xc8, 0xc0, 0x68, 0xd5, 0x23, 0x19] := by
  decide +kernel

/-! FOLD (R91: H[0] of "abc"). -/

theorem test_fold :
    (after (exec .fold { abcLoaded with
      V := ((Vector.replicate 16 0).set 0 0x12EF8A641EC4F6D6).set 8 0x75AB709BD3DCBF24 })).map (fun t => (t.H[0], t.H[1], t.SEQ)) =
      some (0x0D4D1C983FA580BA, 0xBB67AE8584CAA73B, 0x900#12) := by decide
theorem test_fold_not_last : (after (exec .fold { abcLoaded with LAST := false })).map (·.SEQ) = some 0x200#12 := by decide

/-! EMIT (R116, section 3): NN = 20 cuts H[2] at a byte boundary. -/

theorem test_emit_20 :
    (after (exec .emit { State.reset with
      H := #v[0x3695F376F6644238, 0xDC1C9284F2230584, 0x34ABA0746B84B668, 0, 0, 0, 0, 0], NN := 20 })).map
        (fun t => (t.DIGEST.toList.take 20, t.SEQ)) =
      some ([0x38, 0x42, 0x64, 0xf6, 0x76, 0xf3, 0x95, 0x36, 0x84, 0x05, 0x23, 0xf2, 0x84, 0x92, 0x1c, 0xdc,
             0x68, 0xb6, 0x84, 0x6b], 0xA00#12) := by decide
theorem test_emit_1 :
    (after (exec .emit { State.reset with H := #v[0xB00C70DDBC821B2E, 0, 0, 0, 0, 0, 0, 0], NN := 1 })).map
        (fun t => t.DIGEST[0]) = some 0x2e := by decide

/-! HEX (R117, section 3). -/

theorem test_hex :
    let s := { State.reset with SEQ := 0xA00, NN := 2, DIGEST := ((Vector.replicate 64 0).set 0 0xBA).set 1 0x80 }
    [readHex s 0, readHex s 1, readHex s 2, readHex s 3, readHex s 4] =
      [some 0x62, some 0x61, some 0x38, some 0x30, none] := by decide

/-! The wait states, RST and a reserved command (R121, R181, R147). -/

theorem test_idle_waits : step State.reset = .next State.reset := rfl
theorem test_done_waits : step { State.reset with SEQ := 0xA00 } = .next { State.reset with SEQ := 0xA00 } := rfl
theorem test_error_takes_start :
    (after (step { State.reset with SEQ := 0xB00, cmd := some 0x01400000000000000003#80 })).map (fun t => (t.SEQ, t.cmd)) =
      some (0x100#12, none) := by decide
theorem test_reset_in_a_run :
    (after (step { abcLoaded with host := [.assertRst] })).map (fun t => (t.SEQ, t.rst)) = some (0x000#12, true) := by decide
theorem test_reserved_command :
    step { State.reset with cmd := some 0x02400000000000000003#80 } =
      .next { State.reset with cmd := some 0x02400000000000000003#80 } := rfl
theorem test_stuck : step { State.reset with SEQ := 0xC00 } = .fault .reservedSequencerWord := rfl

/-! Witnesses: for every statement with hypotheses, a state and operands that meet them, for each clause. -/

/-- A machine waiting in IDLE with "abc" attached and START 64, 3 on CMD. -/
def abcPresented (plan : List SrcAct) : State :=
  { State.reset with mem := Memory.ofBytes [0x61, 0x62, 0x63], srcPlan := plan, cmd := some (commandWord opStart 64 3) }

/-- A machine waiting in DONE with 129 bytes attached, the same command for them on CMD and old values left. -/
def patternPresented (plan : List SrcAct) : State :=
  { State.reset with
    SEQ := 0xA00, H := hash64, BLK := Vector.replicate 128 0xEE, mem := Memory.ofBytes (pattern 129), srcPlan := plan,
    cmd := some (commandWord opStart 32 129) }

theorem witness_EncodeOfDecode : decode (.sequencer 0x7B7#12) = .ok (.g7 11) := by decide
theorem witness_ReservedSequencerWords :
    (0xC ≤ (phaseField 0xC00#12).toNat) ∧ (phaseField 0x7C0#12 = 0x7 ∧ 11 < (roundField 0x7C0#12).toNat) ∧
    (phaseField 0x7B8#12 = 0x7 ∧ (roundField 0x7B8#12).toNat ≤ 11 ∧ 7 < (invocationField 0x7B8#12).toNat) ∧
    (phaseField 0xB01#12 ≠ 0x7 ∧ (phaseField 0xB01#12).toNat ≤ 0xB ∧
      ¬ (roundField 0xB01#12 = 0 ∧ invocationField 0xB01#12 = 0)) := by decide
theorem witness_StepRunsDecodedOperation_busy :
    (hostMove abcLoaded).rst = false ∧ decode (.sequencer (hostMove abcLoaded).SEQ) = .ok .vset ∧
    (hostMove abcLoaded).status = .busy ∧ abcLoaded.host = [] := by decide
theorem witness_StepRunsDecodedOperation_command :
    (hostMove (abcPresented [])).rst = false ∧ decode (.sequencer (hostMove (abcPresented [])).SEQ) = .ok .idle ∧
    (hostMove (abcPresented [])).status ≠ .busy ∧ (hostMove (abcPresented [])).cmd = some (commandWord opStart 64 3) ∧
    decode (.command (commandWord opStart 64 3)) = .ok (.start 64 3) := by decide
theorem witness_ResetWins : (hostMove { abcLoaded with host := [.assertRst] }).rst = true := by decide
theorem witness_ReservedWordIsStuck :
    (hostMove { State.reset with SEQ := 0x7C8 }).rst = false ∧
    decode (.sequencer 0x7C8#12) = .bad .reservedRound := by decide
theorem witness_StartBeginsARun : State.reset.status ≠ .busy ∧ legalLength 1 ∧ legalLength 64 ∧ abcLoaded.status = .busy := by
  decide
theorem witness_Acceptance_held : abcLoaded.host = [] ∧ abcLoaded.rst = false ∧ abcLoaded.status = .busy := by decide
theorem witness_Acceptance_accepted :
    accepted (abcPresented []) = some (.start 64 3) ∧ ∃ t, exec (.start 64 3) (abcPresented []) = .next t :=
  ⟨by decide, _, rfl⟩
theorem witness_ReservedCommand :
    let s := { State.reset with cmd := some 0x00400000000000000003#80 }
    (hostMove s).cmd = some 0x00400000000000000003#80 ∧ opField 0x00400000000000000003#80 ≠ 0x01 ∧
    (hostMove s).rst = false ∧ decode (.sequencer (hostMove s).SEQ) = .ok .idle ∧ Waiting (hostMove s) := by decide
theorem witness_IllegalLength : State.reset.status ≠ .busy ∧ ¬ legalLength 0 ∧ ¬ legalLength 65 := by decide
theorem witness_Loadn_block :
    let s := loading 0 300 [] [.give (pattern 128)]
    sourceAnswer s s.T 128 = .ok (pattern 128) ∧ (pattern 128).length = 128 := by decide +kernel
theorem witness_Loadn_short :
    let s := loading 128 300 [] [.give (pattern 127)]
    sourceAnswer s s.T 128 = .ok (pattern 127) ∧ (pattern 127).length < 128 := by decide +kernel
theorem witness_Loadn_err : let s := loading 128 300 [] [.fail 2]; sourceAnswer s s.T 128 = .err 2 := by decide
theorem witness_Loadf_empty :
    let s := loading 0 0 [] []
    s.T.toNat ≤ s.LEN.toNat ∧ s.LEN.toNat - s.T.toNat ≤ 128 ∧
    sourceAnswer s s.T (s.LEN.toNat - s.T.toNat) = .ok [] ∧ ([] : List Byte).length ≤ s.LEN.toNat - s.T.toNat := by decide
theorem witness_Loadf_full :
    let s := loading 128 256 [] [.give (pattern 128)]
    s.T.toNat ≤ s.LEN.toNat ∧ s.LEN.toNat - s.T.toNat ≤ 128 ∧
    sourceAnswer s s.T (s.LEN.toNat - s.T.toNat) = .ok (pattern 128) ∧
    (pattern 128).length ≤ s.LEN.toNat - s.T.toNat := by decide +kernel
theorem witness_Loadf_err :
    let s := loading 0 3 [] [.fail 1]
    s.T.toNat ≤ s.LEN.toNat ∧ s.LEN.toNat - s.T.toNat ≤ 128 ∧
    sourceAnswer s s.T (s.LEN.toNat - s.T.toNat) = .err 1 := by decide
theorem witness_LoadsMakeOneRequest :
    (∃ t, exec .loadn (loading 0 300 [] [.fail 2]) = .next t) ∧ (∃ t, exec .loadn (loading 0 300 [] [.hang]) = .next t) ∧
    (∃ t, exec .loadf (loading 0 3 [] [.fail 2]) = .next t) ∧ (∃ t, exec .loadf (loading 0 3 [] [.hang]) = .next t) :=
  ⟨⟨_, rfl⟩, ⟨_, rfl⟩, ⟨_, rfl⟩, ⟨_, rfl⟩⟩
theorem witness_FinalCount :
    (let s := loading 0 129 [] []; ¬ (s.T.toNat ≤ s.LEN.toNat ∧ s.LEN.toNat - s.T.toNat ≤ 128)) ∧
    (let s := loading 1 0 [] []; ¬ (s.T.toNat ≤ s.LEN.toNat ∧ s.LEN.toNat - s.T.toNat ≤ 128)) := by decide
theorem witness_Overlong_loadn :
    let s := loading 0 300 [] [.give (pattern 129)]
    sourceAnswer s s.T 128 = .ok (pattern 129) ∧ 128 < (pattern 129).length := by decide +kernel
theorem witness_Overlong_loadf :
    let s := loading 0 3 [] [.give (pattern 4)]
    s.T.toNat ≤ s.LEN.toNat ∧ s.LEN.toNat - s.T.toNat ≤ 128 ∧
    sourceAnswer s s.T (s.LEN.toNat - s.T.toNat) = .ok (pattern 4) ∧
    s.LEN.toNat - s.T.toNat < (pattern 4).length := by decide

/-- A message laid out from offset 0 is held (20_memory.md R41). -/
theorem holdsMessage_ofBytes (s : State) (msg : List Byte) (h : s.mem = Memory.ofBytes msg) (hl : msg.length ≤ 2 ^ 64) :
    HoldsMessage s msg := by
  intro j hj
  rw [h, Memory.read_ofBytes msg j hj hl]

theorem witness_SourceServes :
    HoldsMessage (abcPresented []) [0x61, 0x62, 0x63] ∧ 3 + 0 ≤ [(0x61 : Byte), 0x62, 0x63].length ∧ (3 : Nat) < 2 ^ 64 ∧
    (abcPresented []).srcPlan = [] ∧ HoldsMessage (abcPresented [.serve]) [0x61, 0x62, 0x63] ∧
    (abcPresented [.serve]).srcPlan.head? = some .serve :=
  ⟨holdsMessage_ofBytes _ _ rfl (by decide), by decide, by decide, rfl, holdsMessage_ofBytes _ _ rfl (by decide), rfl⟩
theorem witness_SilentSource :
    (let s := { loading 0 300 [] [.hang] with SEQ := 0x300 }
     Undisturbed s ∧ s.srcPlan = [.hang] ∧ s.SEQ = 0x300#12) ∧
    (let s := { loading 0 0 [] [.hang] with SEQ := 0x400 }
     Undisturbed s ∧ s.srcPlan = [.hang] ∧ s.SEQ = 0x400#12 ∧ s.T.toNat ≤ s.LEN.toNat ∧
       s.LEN.toNat - s.T.toNat ≤ 128) := by decide
theorem witness_DigestLength : legalLength 1 ∧ legalLength 64 := by decide
theorem witness_Wait :
    (hostMove { State.reset with SEQ := 0xB00 }).rst = false ∧ Waiting (hostMove { State.reset with SEQ := 0xB00 }) ∧
    accepted (hostMove { State.reset with SEQ := 0xB00 }) = none := by decide
theorem witness_InvocationsCommute :
    ((3 : Fin 8).val < 4 ↔ (0 : Fin 8).val < 4) ∧ ((4 : Fin 8).val < 4 ↔ (7 : Fin 8).val < 4) := by decide
theorem witness_Compression : Undisturbed abcLoaded ∧ abcLoaded.SEQ = 0x500#12 := by decide
theorem witness_Status :
    phaseField 0x000#12 = 0x0 ∧ phaseField 0xA00#12 = 0xA ∧ phaseField 0xB00#12 = 0xB ∧
    (phaseField 0x7B7#12 ≠ 0x0 ∧ phaseField 0x7B7#12 ≠ 0xA ∧ phaseField 0x7B7#12 ≠ 0xB) := by decide
theorem witness_Hex :
    let s := { State.reset with SEQ := 0xA00, NN := 64 }
    readStatus s = 2 ∧ (63 : Fin 64).val < s.NN.toNat := by decide
theorem witness_Writers : exec .mdec abcLoaded = .next ((abcLoaded.setM (blockWords abcLoaded.BLK)).advance .g 0 0) := rfl
theorem witness_OnlyLoadsRaise :
    ∃ t, exec .loadf { loading 0 0 [] [.fail 1] with SEQ := 0x400 } = .next t ∧ t.SEQ = 0xB00#12 ∧
      ({ loading 0 0 [] [.fail 1] with SEQ := 0x400 } : State).SEQ ≠ 0xB00#12 ∧
      t.CAUSE ≠ ({ loading 0 0 [] [.fail 1] with SEQ := 0x400 } : State).CAUSE :=
  ⟨_, rfl, by decide, by decide, by decide⟩
theorem witness_HostSees :
    State.reset.SEQ = (State.reset.setH hash64).SEQ ∧ State.reset.CAUSE = (State.reset.setH hash64).CAUSE ∧
    State.reset.DIGEST = (State.reset.setH hash64).DIGEST ∧ State.reset.NN = (State.reset.setH hash64).NN := ⟨rfl, rfl, rfl, rfl⟩

/-- A state of the invariant in the middle of a run: "abc" loaded, about to build the working vector. -/
theorem abcLoaded_inv : Inv abcLoaded :=
  ⟨⟨.vset, by decide, ⟨by decide, by simp [LoadedInv, abcLoaded]⟩⟩, by decide⟩

theorem witness_EveryStepKeeps : Inv abcLoaded ∧ ∃ t, step abcLoaded = .next t := ⟨abcLoaded_inv, _, rfl⟩
theorem witness_StepStops :
    Inv abcLoaded ∧ Inv { State.reset with cmd := some (commandWord opStart 65 3) } ∧
    step { State.reset with cmd := some (commandWord opStart 65 3) } = .refused .digestLengthOutsideContract :=
  ⟨abcLoaded_inv, ⟨⟨.idle, by decide, trivial⟩, by decide⟩, rfl⟩
theorem step_overlong_loadn (s : State) (bytes : List Byte) (rest : List SrcAct) (hu : Undisturbed s) (hs : s.SEQ = 0x300#12)
    (hp : s.srcPlan = .give bytes :: rest) (hl : 128 < bytes.length) : step s = .refused .answerLongerThanAsked := by
  rw [step_of_busy (i := .loadn) hu.1 hu.2 (by rw [State.status, hs]; decide) (by rw [hs]; decide)]
  exact memRead_of_longer takeBlock (by simp [sourceAnswer, hp]) hl
theorem witness_StepStops_overlong_loadn :
    let s := { loading 128 300 [] [.give (pattern 129)] with SEQ := 0x300 }
    Inv s ∧ step s = .refused .answerLongerThanAsked :=
  ⟨⟨⟨.loadn, by decide, by decide, ⟨by decide, by decide, by decide⟩, by decide⟩, by decide⟩,
    step_overlong_loadn _ (pattern 129) [] (by decide) rfl rfl (by decide +kernel)⟩
theorem witness_StepStops_overlong_loadf :
    let s := { loading 0 3 [] [.give (pattern 4)] with SEQ := 0x400 }
    Inv s ∧ step s = .refused .answerLongerThanAsked :=
  ⟨⟨⟨.loadf, by decide, by decide, ⟨by decide, by decide, by decide⟩, by decide⟩, by decide⟩, rfl⟩
theorem witness_UndisturbedBlockWaits :
    (let s := { State.reset with SEQ := 0xB00, cmd := some 0x02400000000000000003#80 }
     Undisturbed s ∧ Waiting s ∧ accepted s = none) ∧
    Undisturbed State.reset ∧ Waiting State.reset ∧ accepted State.reset = none := by decide
theorem witness_HostWrites :
    (hostMove (abcPresented [])).rst = false ∧ Waiting (abcPresented []) ∧ (∃ t, step (abcPresented []) = .next t) ∧
    (hostMove State.reset).rst = false ∧ Waiting State.reset ∧ (∃ t, step State.reset = .next t) ∧
    accepted (hostMove State.reset) = none :=
  ⟨by decide, by decide, ⟨_, rfl⟩, by decide, by decide, ⟨_, rfl⟩, by decide⟩
theorem witness_Rotation : 1 ≤ 1 ∧ 1 ≤ 63 ∧ 63 ≤ 63 ∧ 63 < 64 := by decide

/-- The invariant at a load: 129 bytes, one block taken. -/
theorem witness_Requests :
    Inv { loading 128 129 (pattern 129) [] with SEQ := 0x400 } ∧
    ∃ t, step { loading 128 129 (pattern 129) [] with SEQ := 0x400 } = .next t :=
  ⟨⟨⟨.loadf, by decide, ⟨by decide, ⟨by decide, by decide, by decide⟩, by decide⟩⟩, by decide⟩, _, rfl⟩

theorem witness_RunYieldsTheDigest :
    Waiting (patternPresented []) ∧ Undisturbed (patternPresented []) ∧ Presents (patternPresented []) 32 129 ∧
    legalLength 32 ∧ (pattern 129).length = (129#64).toNat ∧ HoldsMessage (patternPresented []) (pattern 129) ∧
    (∀ act ∈ (patternPresented []).srcPlan, act = .serve) :=
  ⟨by decide, by decide, by decide, by decide, by decide +kernel, holdsMessage_ofBytes _ _ rfl (by decide +kernel), by simp [patternPresented]⟩
theorem witness_FailedRun_error :
    let s := patternPresented [.serve, .fail 2]
    Waiting s ∧ Undisturbed s ∧ Presents s 32 129 ∧ legalLength 32 ∧ 1 ≤ nonFinalBlocks (129#64).toNat ∧
    AnsweredInFull s 0 1 ∧ answerTo s 0 1 (min 128 ((129#64).toNat - 128 * 1)) = .err 2 := by
  refine ⟨by decide, by decide, by decide, by decide, by decide, fun j hj => ?_, by decide⟩
  obtain rfl : j = 0 := by omega
  exact ⟨pattern 128, by decide +kernel, by decide +kernel⟩
theorem witness_FailedRun_given_short :
    let s := patternPresented [.give (pattern 127)]
    Waiting s ∧ Undisturbed s ∧ Presents s 32 129 ∧ legalLength 32 ∧ 0 < nonFinalBlocks (129#64).toNat ∧
    AnsweredInFull s 0 0 ∧ answerTo s 0 0 128 = .ok (pattern 127) ∧ (pattern 127).length < 128 :=
  ⟨by decide, by decide, by decide, by decide, by decide, fun j hj => absurd hj (by omega), by decide +kernel,
    by decide +kernel⟩
/-- A source that holds 3 bytes, of 129 the command says there are. -/
theorem witness_FailedRun_served_short :
    let s := { abcPresented [] with cmd := some (commandWord opStart 64 129) }
    Waiting s ∧ Undisturbed s ∧ Presents s 64 129 ∧ legalLength 64 ∧ 0 < nonFinalBlocks (129#64).toNat ∧
    AnsweredInFull s 0 0 ∧ answerTo s 0 0 128 = .ok [0x61, 0x62, 0x63] ∧ [(0x61 : Byte), 0x62, 0x63].length < 128 :=
  ⟨by decide, by decide, by decide, by decide, by decide, fun j hj => absurd hj (by omega), by decide, by decide⟩
theorem witness_RunIsIndependent :
    let s := abcPresented []
    let s' := (abcPresented []).setH hash64
    Waiting s ∧ Waiting s' ∧ Undisturbed s ∧ Undisturbed s' ∧ Presents s 64 3 ∧ Presents s' 64 3 ∧ s.mem = s'.mem ∧
    s.srcPlan = s'.srcPlan := by decide
theorem witness_MessageBytes :
    SameControl (abcPresented []) { (abcPresented []) with H := hash64, mem := Memory.ofBytes [0x78, 0x79, 0x7A] } := by
  simp [SameControl, abcPresented, Memory.ofBytes, Memory.ofBytesFrom]
theorem witness_EveryAnsweredRunEnds :
    Inv abcLoaded ∧ Undisturbed abcLoaded ∧ abcLoaded.status = .busy ∧ AnswersEvery abcLoaded :=

  ⟨abcLoaded_inv, by decide, by decide, fun _ ht => absurd (ht.symm.trans (by decide : nextOffset abcLoaded = none)) nofun⟩
/-- At SEL with three bytes to come, of which the source gives one: fewer than asked for is an answer (R41). -/
theorem witness_EveryAnsweredRunEnds_give :
    let s := loading 0 3 [] [.give [0x61]]
    let u := { s with SEQ := 0x200 }
    Inv u ∧ Undisturbed u ∧ u.status = .busy ∧ AnswersEvery u := by
  refine ⟨⟨⟨.sel, by decide, by decide, by decide, by decide, by decide⟩, by decide⟩, by decide, by decide, ?_⟩
  intro t ht i hi _
  obtain rfl : t = 0 := Option.some.inj (ht.symm.trans
    (by decide : nextOffset { loading 0 3 [] [.give [0x61]] with SEQ := 0x200 } = some 0))
  have hi0 : i = 0 := by
    rcases hi with hi | hi
    · exact hi
    · have : 0 + 128 * i < 3 := hi
      omega
  subst hi0
  show ([0x61] : List Byte).length ≤ 3
  decide

end Sys2Proof.Tests
end

section
/-!
The right rotation (00_scope.md R6): R6 describes it by where each bit goes and as two shifts combined. Each description
is a lemma about `rotr64` of its own; together they settle O28.
-/
namespace Sys2Proof.Machine

/-- R6's description by bits. It needs no bound on `n`: the rotation is by `n` modulo 64. -/
theorem getLsbD_rotr64 (a : Word) (n : Nat) {i : Nat} (hi : i < 64) :
    (rotr64 a n).getLsbD i = a.getLsbD ((i + n) % 64) := by
  rw [rotr64, BitVec.getLsbD_rotateRight]
  by_cases hlow : i < 64 - n % 64
  · have hsrc : n % 64 + i = (i + n) % 64 := by omega
    simp only [hlow, decide_true, cond_true, hsrc]
  · have hwrap : i - (64 - n % 64) = (i + n) % 64 := by omega
    simp only [hlow, hi, decide_false, decide_true, cond_false, Bool.true_and, hwrap]

/-- R6's description by shifts. The reduction modulo `2^64` cuts only the left shift: the right shift stays below. -/
theorem toNat_rotr64 (a : Word) {n : Nat} (hn : n < 64) :
    (rotr64 a n).toNat = ((a.toNat >>> n) ||| (a.toNat <<< (64 - n))) % 2 ^ 64 := by
  have hright : a.toNat >>> n < 2 ^ 64 := Nat.lt_of_le_of_lt (Nat.shiftRight_le _ _) a.isLt
  rw [rotr64, BitVec.toNat_rotateRight, Nat.mod_eq_of_lt hn, Nat.or_mod_two_pow, Nat.mod_eq_of_lt hright]

/-- Settles O28: the two descriptions of the rotation in R6, by bits and by shifts. -/
theorem rotationMovesBits : Obligations.RotationMovesBits := by
  intro a n i _ hn hi
  exact ⟨getLsbD_rotr64 a n hi, toNat_rotr64 a (Nat.lt_succ_of_le hn)⟩

end Sys2Proof.Machine
end

section
/-!
The state (10_state.md): what the host reads (R21, R25), which operation a step runs (R15), what the host writes (R25),
which operation writes which register (R11 to R22), and the state after reset (R29).
-/
namespace Sys2Proof.Machine

/-! What the host reads. -/

/-- STATUS as a number, by the value of PHASE. -/
theorem readStatus_eq (s : State) :
    readStatus s = if phaseField s.SEQ = 0x0 then 0 else if phaseField s.SEQ = 0xA then 2
      else if phaseField s.SEQ = 0xB then 3 else 1 := by
  simp only [readStatus, State.status, statusOf, apply_ite Status.code]
  rfl

/-- Settles O39: each clause is one branch of STATUS. -/
theorem statusIsAViewOfPhase : Obligations.StatusIsAViewOfPhase := by
  intro s
  rw [readStatus_eq]
  refine ⟨fun hidle => if_pos hidle, fun hdone => ?_, fun herror => ?_, fun hidle hdone herror => ?_⟩
  · rw [hdone]; rfl
  · rw [herror]; rfl
  · rw [if_neg hidle, if_neg hdone, if_neg herror]

theorem status_congr {s t : State} (hSEQ : s.SEQ = t.SEQ) : s.status = t.status := congrArg statusOf hSEQ

/-- What the host reads of one digest byte depends on three registers. -/
theorem readDigest_congr {s t : State} (hSEQ : s.SEQ = t.SEQ) (hDIGEST : s.DIGEST = t.DIGEST) (hNN : s.NN = t.NN)
    (j : Fin 64) : readDigest s j = readDigest t j := by
  simp only [readDigest, status_congr hSEQ, hDIGEST, hNN]

/-- Settles O44: CAUSE is read through STATUS, and HEX through DIGEST. -/
theorem hostSeesOnlyItsPorts : Obligations.HostSeesOnlyItsPorts := by
  intro s t hSEQ hCAUSE hDIGEST hNN
  have hdigest := readDigest_congr hSEQ hDIGEST hNN
  refine ⟨?_, ?_, hdigest, fun i => ?_⟩
  · rw [readStatus, readStatus, status_congr hSEQ]
  · rw [readCause, readCause, status_congr hSEQ, hCAUSE]
  · rw [readHex, readHex, hdigest]

/-! Which operation a step runs. -/

/-- A word on CMD that decodes is accepted unless STATUS is BUSY. -/
theorem accepted_of_command {s : State} {w : BitVec 80} {c : Instr} (hb : s.status ≠ .busy) (hw : s.cmd = some w)
    (hc : decode (.command w) = .ok c) : accepted s = some c := by
  simp only [accepted, hw, if_neg hb, hc, Decoded.instr?]

/-- A step with RST released and SEQ legal: the command accepted, else the operation in SEQ. -/
theorem step_of_legal {s : State} {i : Instr} (hr : (hostMove s).rst = false)
    (h : decode (.sequencer (hostMove s).SEQ) = .ok i) :
    step s = exec ((accepted (hostMove s)).getD i) (hostMove s) := by
  rw [step, blockMove_of_legal h, hr]
  rfl

/-- Settles O7: the three cases are what the port accepts, nothing or the command, and a host with no act left. -/
theorem stepRunsDecodedOperation : Obligations.StepRunsDecodedOperation := by
  intro s i hr hi
  rw [step_of_legal hr hi]
  refine ⟨fun hquiet => ?_, fun w c hb hw hc => ?_, hostMove_nil s⟩
  · have hnone : accepted (hostMove s) = none := hquiet.elim accepted_of_busy accepted_of_noCommand
    rw [hnone]
    rfl
  · rw [accepted_of_command hb hw hc]
    rfl

/-- The word in a wait state is that of an operation that changes nothing (41_digest_driver.md R121). -/
theorem decode_of_waiting {s : State} (h : Waiting s) :
    ∃ i, decode (.sequencer s.SEQ) = .ok i ∧ ∀ u, exec i u = .next u := by
  rcases h with hw | hw | hw <;> rw [hw]
  · exact ⟨.idle, decode_idle_word, fun _ => rfl⟩
  · exact ⟨.done, decode_done_word, fun _ => rfl⟩
  · exact ⟨.error, decode_error_word, fun _ => rfl⟩

theorem hostMove_SEQ (s : State) : (hostMove s).SEQ = s.SEQ := (hostMove_registers s).2.2.2.2.1

/-- A step from a wait state with RST released: the command accepted, else nothing after the host's move. -/
theorem step_of_waiting {s : State} (hr : (hostMove s).rst = false) (hw : Waiting s) :
    step s = (accepted (hostMove s)).elim (.next (hostMove s)) fun c => exec c (hostMove s) := by
  obtain ⟨i, hi, hnop⟩ := decode_of_waiting hw
  rw [← hostMove_SEQ] at hi
  rw [step_of_legal hr hi]
  cases accepted (hostMove s) with
  | none => exact hnop _
  | some c => rfl

/-! What the host writes. -/

/-- Everything START can do when it answers a next state: it is held while BUSY, else it begins a run
(42_host_interface.md R141, R142). -/
theorem execStart_next {nn : BitVec 8} {len : BitVec 64} {s t : State} (h : execStart nn len s = .next t) :
    (s.status = .busy ∧ t = s) ∨
    (s.status ≠ .busy ∧ legalLength nn ∧ t = (((s.setNN nn).setLEN len).setCmd none).advance .init 0 0) := by
  unfold execStart at h
  split at h
  · exact .inl ⟨‹_›, (Host.Outcome.next.inj h).symm⟩
  · split at h
    · exact .inr ⟨‹_›, ‹_›, (Host.Outcome.next.inj h).symm⟩
    · cases h

theorem SameRegisters.refl (s : State) : SameRegisters s s :=
  ⟨rfl, rfl, rfl, rfl, rfl, rfl, rfl, rfl, rfl, rfl, rfl⟩

theorem sameRegisters_hostAct (s : State) (act : HostAct) : SameRegisters (hostAct s act) s := by
  cases act <;> exact SameRegisters.refl s

theorem sameRegisters_hostMove (s : State) : SameRegisters (hostMove s) s := by
  unfold hostMove
  split
  · exact SameRegisters.refl s
  · rename_i act rest _
    exact sameRegisters_hostAct { s with host := rest } act

/-- Settles O54: the block, waiting, runs at most a START. -/
theorem hostWritesOnlyByStartAndReset : Obligations.HostWritesOnlyByStartAndReset := by
  refine ⟨sameRegisters_hostAct, sameRegisters_hostMove, fun s t hr hw h => ?_⟩
  rw [step_of_waiting hr hw] at h
  cases ha : accepted (hostMove s) with
  | none =>
    obtain rfl : hostMove s = t := by simpa [ha] using h
    exact ⟨by simp [SameRegisters, hostMove_registers], fun _ => sameRegisters_hostMove s⟩
  | some c =>
    obtain ⟨w, -, -, -, rfl⟩ := accepted_some ha
    rw [ha] at h
    refine ⟨?_, nofun⟩
    obtain ⟨-, rfl⟩ | ⟨-, -, rfl⟩ := execStart_next h <;>
      simp [SameRegisters, hostMove_registers]

/-! Which operation writes which register. -/

/-- Everything LOADN can do when it answers a next state (41_digest_driver.md R113): wait for an answer, raise the
source's error, raise a short read, or take a whole block. -/
theorem execLoadn_next {s t : State} (h : execLoadn s = .next t) :
    (sourceAnswer s s.T 128 = .silent ∧ t = s) ∨
    (∃ code, sourceAnswer s s.T 128 = .err code ∧ t = (s.answered s.T 128).raise code) ∨
    ∃ bytes, sourceAnswer s s.T 128 = .ok bytes ∧
      (bytes.length < 128 ∧ t = (s.answered s.T 128).raise causeShort ∨
        bytes.length = 128 ∧
          t = ((((s.answered s.T 128).setBLK (blockOf bytes)).setT (s.T + 128)).setLAST false).advance .vset 0 0) := by
  obtain hsilent | herr | ⟨bytes, hok, hle, hk⟩ := memRead_next h
  · exact .inl hsilent
  · exact .inr (.inl herr)
  · refine .inr (.inr ⟨bytes, hok, ?_⟩)
    unfold takeBlock at hk
    split at hk
    · exact .inl ⟨‹_›, (Host.Outcome.next.inj hk).symm⟩
    · exact .inr ⟨by omega, (Host.Outcome.next.inj hk).symm⟩

/-- Everything LOADF can do when it answers a next state (41_digest_driver.md R114), its range being that of line 1:
wait for an answer, raise the source's error, or take what there is. -/
theorem execLoadf_next {s t : State} (h : execLoadf s = .next t) :
    (s.T.toNat ≤ s.LEN.toNat ∧ s.LEN.toNat - s.T.toNat ≤ 128) ∧
    ((sourceAnswer s s.T (s.LEN.toNat - s.T.toNat) = .silent ∧ t = s) ∨
    (∃ code, sourceAnswer s s.T (s.LEN.toNat - s.T.toNat) = .err code ∧
      t = (s.answered s.T (s.LEN.toNat - s.T.toNat)).raise code) ∨
    ∃ bytes, sourceAnswer s s.T (s.LEN.toNat - s.T.toNat) = .ok bytes ∧
      bytes.length ≤ s.LEN.toNat - s.T.toNat ∧
      t = ((((s.answered s.T (s.LEN.toNat - s.T.toNat)).setBLK (blockOf bytes)).setT s.LEN).setLAST true).advance
        .vset 0 0) := by
  unfold execLoadf at h
  split at h
  · refine ⟨‹_›, ?_⟩
    obtain hsilent | herr | ⟨bytes, hok, hle, hk⟩ := memRead_next h
    · exact .inl hsilent
    · exact .inr (.inl herr)
    · exact .inr (.inr ⟨bytes, hok, hle, (Host.Outcome.next.inj hk).symm⟩)
  · cases h

/-- Settles O42, operation by operation: the registers of its rule are in the state it answers, the others are read
through its writes. -/
theorem writersOfEachRegister : Obligations.WritersOfEachRegister := by
  intro i s t h
  cases i with
  | start nn len => obtain ⟨-, rfl⟩ | ⟨-, -, rfl⟩ := execStart_next h <;> simp
  | loadn =>
    obtain ⟨-, rfl⟩ | ⟨_, -, rfl⟩ | ⟨_, -, ⟨-, rfl⟩ | ⟨-, rfl⟩⟩ := execLoadn_next h <;> simp
  | loadf => obtain ⟨-, ⟨-, rfl⟩ | ⟨_, -, rfl⟩ | ⟨_, -, -, rfl⟩⟩ := execLoadf_next h <;> simp
  | g0 r | g1 r | g2 r | g3 r | g4 r | g5 r | g6 r | g7 r =>
    obtain rfl := Host.Outcome.next.inj h
    simp [isMixing]
  | init | sel | vset | mdec | fold | emit | idle | done | error =>
    obtain rfl := Host.Outcome.next.inj h
    simp

/-! The invariant. -/

/-- Settles O45: SEQ is IDLE, of which the invariant asks nothing more, and no source contents are listed. -/
theorem invariantHoldsAtReset : Obligations.InvariantHoldsAtReset :=
  ⟨⟨.idle, decode_idle_word, trivial⟩, rfl⟩

end Sys2Proof.Machine
end

section
/-!
Address space SRC (20_memory.md): what a source that serves answers (R42), the one request of a load (R46, R49), a source
that never answers (R52), an answer longer than asked (R41, U13), and where the requests of a run lie (R47, R48).
-/
namespace Sys2Proof.Machine

/-! What a source that serves answers. -/

/-- Inside the message it holds, a source has every byte asked for. -/
theorem readUpTo_of_holdsMessage {s : State} {msg : List Byte} (hm : HoldsMessage s msg) {off n : Nat}
    (hn : off + n ≤ msg.length) : Memory.readUpTo s.mem off n = (msg.drop off).take n := by
  have hlen : ((msg.drop off).take n).length = n := by simp; omega
  have hreads : ∀ i, i < ((msg.drop off).take n).length →
      Memory.read s.mem (off + i) = ((msg.drop off).take n)[i]? := by
    intro i hi
    rw [hlen] at hi
    rw [hm (off + i) (by omega), List.getElem?_take_of_lt hi, List.getElem?_drop]
  have h := Memory.readUpTo_of_reads s.mem off _ hreads
  rwa [hlen] at h

/-- Settles O22: the source answers what it holds, at an offset that fits its 64 bits. -/
theorem sourceServesItsMessage : Obligations.SourceServesItsMessage := by
  intro s msg off n hm hn hoff hserves
  rw [sourceAnswer_of_serves s _ n hserves, BitVec.toNat_ofNat, Nat.mod_eq_of_lt hoff,
    readUpTo_of_holdsMessage hm hn]

/-! The loads. -/

/-- LOADF where its line 1 holds (41_digest_driver.md R114). -/
theorem execLoadf_of_inRange {s : State} (hle : s.T.toNat ≤ s.LEN.toNat) (hcount : s.LEN.toNat - s.T.toNat ≤ 128) :
    execLoadf s = memRead s s.T (s.LEN.toNat - s.T.toNat) takeFinalBlock :=
  if_pos ⟨hle, hcount⟩

/-- MemRead without an answer changes nothing (R52). -/
theorem memRead_of_silent {s : State} {off : Word} {n : Nat} (k : List Byte → State → Out)
    (h : sourceAnswer s off n = .silent) : memRead s off n k = .next s := by
  simp [memRead, h]

/-- Settles O21: both loads are a MemRead, of 128 bytes and of LEN - T. -/
theorem overlongAnswerIsRefused : Obligations.OverlongAnswerIsRefused := by
  intro s bytes
  refine ⟨fun hok hlong => memRead_of_longer _ hok hlong, fun hle hcount hok hlong => ?_⟩
  exact (execLoadf_of_inRange hle hcount).trans (memRead_of_longer _ hok hlong)

/-- Settles O19: a load that goes on or raises does so from the state in which its request is recorded. -/
theorem loadsMakeOneRequest : Obligations.LoadsMakeOneRequest := by
  intro s t
  refine ⟨fun h => ?_, fun h => ?_⟩
  · obtain ⟨hsilent, rfl⟩ | ⟨code, herr, rfl⟩ | ⟨bytes, hok, ⟨-, rfl⟩ | ⟨-, rfl⟩⟩ := execLoadn_next h
    · rw [if_pos hsilent]
    · simp [herr]
    · simp [hok]
    · simp [hok]
  · obtain ⟨-, ⟨hsilent, rfl⟩ | ⟨code, herr, rfl⟩ | ⟨bytes, hok, -, rfl⟩⟩ := execLoadf_next h
    · rw [if_pos hsilent]
    · simp [herr]
    · simp [hok]

/-! A source that never answers. -/

theorem sourceAnswer_of_hang {s : State} {rest : List SrcAct} (h : s.srcPlan = .hang :: rest) (off : Word) (n : Nat) :
    sourceAnswer s off n = .silent := by
  simp [sourceAnswer, h]

/-- A run from a state that a step leaves as it is stays there. -/
theorem runSteps_of_fixed {s : State} (h : step s = .next s) (k : Nat) : runSteps k s = .next s := by
  induction k with
  | zero => rfl
  | succ k ih => rw [runSteps_succ_of_next h, ih]

/-- Settles O23: the run is busy with a load, whose MemRead leaves the state as it is. -/
theorem silentSourceHangsTheRun : Obligations.SilentSourceHangsTheRun := by
  intro s rest k ⟨hrst, hhost⟩ hplan hload
  have hsilent := sourceAnswer_of_hang hplan s.T
  obtain ⟨i, hdecode, hbusy, hexec⟩ :
      ∃ i, decode (.sequencer s.SEQ) = .ok i ∧ s.status = .busy ∧ exec i s = .next s := by
    obtain hSEQ | ⟨hSEQ, hle, hcount⟩ := hload <;> rw [State.status, hSEQ]
    · exact ⟨.loadn, decode_loadn_word, by decide, memRead_of_silent takeBlock (hsilent 128)⟩
    · exact ⟨.loadf, decode_loadf_word, by decide,
        (execLoadf_of_inRange hle hcount).trans (memRead_of_silent takeFinalBlock (hsilent _))⟩
  have hstep : step s = .next s := (step_of_busy hrst hhost hbusy hdecode).trans hexec
  exact ⟨runSteps_of_fixed hstep k, by rw [readStatus, hbusy]; rfl⟩

/-! Where the requests lie. -/

/-- Only the loads make a request. -/
theorem exec_requests {i : Instr} {s t : State} (h : exec i s = .next t) (hloadn : i ≠ .loadn) (hloadf : i ≠ .loadf) :
    t.requests = s.requests := by
  obtain ⟨-, -, -, -, -, -, -, -, -, hrecord, -⟩ := writersOfEachRegister i s t h
  obtain ⟨hreq, -⟩ | hload | hload := hrecord
  · exact hreq
  · exact absurd hload hloadn
  · exact absurd hload hloadf

/-- `t` has the requests of `s` and at most one more, of offset T: aligned, at most 128 bytes, none at or past LEN. -/
def AddsRequestInside (s t : State) : Prop :=
  t.requests = s.requests ∨
  ∃ n, t.requests = s.requests ++ [⟨s.T, n⟩] ∧ 128 ∣ s.T.toNat ∧ n ≤ 128 ∧ s.T.toNat + n ≤ s.LEN.toNat

theorem execLoadn_addsRequestInside {s t : State} (hphase : PhaseInv s .loadn) (h : execLoadn s = .next t) :
    AddsRequestInside s t := by
  obtain ⟨-, ⟨haligned, -⟩, hleft⟩ := hphase
  have hone := (loadsMakeOneRequest s t).1 h
  split at hone
  · exact .inl (congrArg State.requests hone)
  · exact .inr ⟨128, hone.2, haligned, le_rfl, hleft.le⟩

theorem execLoadf_addsRequestInside {s t : State} (hphase : PhaseInv s .loadf) (h : execLoadf s = .next t) :
    AddsRequestInside s t := by
  obtain ⟨-, ⟨haligned, hle, -⟩, hcount⟩ := hphase
  have hone := (loadsMakeOneRequest s t).2 h
  split at hone
  · exact .inl (congrArg State.requests hone)
  · exact .inr ⟨s.LEN.toNat - s.T.toNat, hone.2, haligned, by omega, by omega⟩

theorem exec_addsRequestInside {i : Instr} {s t : State} (hphase : PhaseInv s i) (h : exec i s = .next t) :
    AddsRequestInside s t := by
  cases i with
  | loadn => exact execLoadn_addsRequestInside hphase h
  | loadf => exact execLoadf_addsRequestInside hphase h
  | _ => exact .inl (exec_requests h nofun nofun)

/-- The block's move is RST or a START, which make no request, or the operation in SEQ. -/
theorem blockMove_addsRequestInside {i : Instr} {s t : State} (hdecode : decode (.sequencer s.SEQ) = .ok i)
    (hphase : PhaseInv s i) (h : blockMove s = .next t) : AddsRequestInside s t := by
  rw [blockMove_of_legal hdecode] at h
  split at h
  · obtain rfl := Host.Outcome.next.inj h
    exact .inl s.resetBlock_requests
  · cases ha : accepted s with
    | none => exact exec_addsRequestInside hphase (by simpa [ha] using h)
    | some c =>
      obtain ⟨w, -, -, -, rfl⟩ := accepted_some ha
      rw [ha] at h
      exact .inl (exec_requests h nofun nofun)

/-- Settles O48: the host's move writes neither the registers the invariant speaks of nor the record. -/
theorem requestsStayInsideTheMessage : Obligations.RequestsStayInsideTheMessage := by
  intro s t ⟨⟨i, hdecode, hphase⟩, _⟩ h
  obtain ⟨-, hH, -, -, hSEQ, hLAST, hT, hLEN, hNN, -, hDIGEST, hreq, -⟩ := hostMove_registers s
  rw [← hSEQ] at hdecode
  have hphase' : PhaseInv (hostMove s) i := (phaseInv_congr i hNN hT hLEN hLAST hH hDIGEST).mpr hphase
  have hadds := blockMove_addsRequestInside hdecode hphase' h
  rwa [AddsRequestInside, hreq, hT, hLEN] at hadds

end Sys2Proof.Machine
end

section
/-!
Message bytes are data only (20_memory.md R55): two states that differ at most in message data make the same control
move, operation by operation, and so do their runs.
-/
namespace Sys2Proof.Machine

/-! The byte source: which offsets hold a byte decides how an answer looks, whatever the bytes are. -/

theorem Memory.isSome_read (m : List Host.Cell) (a : Nat) : (Memory.read m a).isSome ↔ a ∈ m.map Prod.fst := by
  induction m with
  | nil => simp [Memory.read]
  | cons c m ih =>
    obtain ⟨a', b⟩ := c
    by_cases h : a' = a
    · simp [Memory.read, h]
    · simp [Memory.read, h, Ne.symm h, ih]

/-- Where a write puts its byte depends on the offsets listed, not on the bytes. -/
theorem Memory.offsets_write_congr {m m' : List Host.Cell} (h : m.map Prod.fst = m'.map Prod.fst) (a : Nat) (b : Byte) :
    (Memory.write m a b).map Prod.fst = (Memory.write m' a b).map Prod.fst := by
  induction m generalizing m' with
  | nil => rw [List.map_eq_nil_iff.mp h.symm]
  | cons c m ih =>
    cases m' with
    | nil => cases h
    | cons c' m' =>
      obtain ⟨hc, hm⟩ := List.cons.inj h
      simp only [Memory.write, hc]
      split
      · simp [hm]
      · split
        · simp [hm]
        · simp [ih hm]

/-- Two answers that differ at most in the bytes they carry, not in their number. -/
inductive SameShape : Answer → Answer → Prop where
  | ok {bytes bytes' : List Byte} (h : bytes.length = bytes'.length) : SameShape (.ok bytes) (.ok bytes')
  | err (code : Byte) : SameShape (.err code) (.err code)
  | silent : SameShape .silent .silent

theorem sameShape_sourceAnswer {s s' : State} (hplan : s.srcPlan = s'.srcPlan)
    (hmem : s.mem.map Prod.fst = s'.mem.map Prod.fst) (off : Word) (n : Nat) :
    SameShape (sourceAnswer s off n) (sourceAnswer s' off n) := by
  have hserved : (Memory.readUpTo s.mem off.toNat n).length = (Memory.readUpTo s'.mem off.toNat n).length := by
    apply Memory.length_readUpTo_congr
    intro a
    rw [Bool.eq_iff_iff, Memory.isSome_read, Memory.isSome_read, hmem]
  unfold sourceAnswer
  rw [hplan]
  split
  · exact .ok hserved
  · exact .ok hserved
  · exact .ok rfl
  · exact .err _
  · exact .silent

/-! The relation of two states that differ at most in message data: what of it the operations read, and the writes that
keep it. Every write of V, H, M, BLK or DIGEST does. -/

section
variable {s s' : State} (h : SameControl s s')
include h

theorem SameControl.SEQ_eq : s.SEQ = s'.SEQ := by simp_all [SameControl]
theorem SameControl.LAST_eq : s.LAST = s'.LAST := by simp_all [SameControl]
theorem SameControl.T_eq : s.T = s'.T := by simp_all [SameControl]
theorem SameControl.LEN_eq : s.LEN = s'.LEN := by simp_all [SameControl]
theorem SameControl.srcPlan_eq : s.srcPlan = s'.srcPlan := by simp_all [SameControl]
theorem SameControl.rst_eq : s.rst = s'.rst := by simp_all [SameControl]
theorem SameControl.cmd_eq : s.cmd = s'.cmd := by simp_all [SameControl]
theorem SameControl.host_eq : s.host = s'.host := by simp_all [SameControl]
theorem SameControl.offsets_eq : s.mem.map Prod.fst = s'.mem.map Prod.fst := by simp_all [SameControl]

theorem SameControl.setV (v v' : Vector Word 16) : SameControl (s.setV v) (s'.setV v') := by
  simpa [SameControl] using h

theorem SameControl.setH (x x' : Vector Word 8) : SameControl (s.setH x) (s'.setH x') := by
  simpa [SameControl] using h

theorem SameControl.setM (m m' : Vector Word 16) : SameControl (s.setM m) (s'.setM m') := by
  simpa [SameControl] using h

theorem SameControl.setBLK (b b' : Vector Byte 128) : SameControl (s.setBLK b) (s'.setBLK b') := by
  simpa [SameControl] using h

theorem SameControl.setDIGEST (d d' : Vector Byte 64) : SameControl (s.setDIGEST d) (s'.setDIGEST d') := by
  simpa [SameControl] using h

theorem SameControl.setSEQ {w w' : BitVec 12} (hw : w = w') : SameControl (s.setSEQ w) (s'.setSEQ w') := by
  simp_all [SameControl]

theorem SameControl.setLAST (b : Bool) : SameControl (s.setLAST b) (s'.setLAST b) := by
  simp_all [SameControl]

theorem SameControl.setT {t t' : Word} (ht : t = t') : SameControl (s.setT t) (s'.setT t') := by
  simp_all [SameControl]

theorem SameControl.takeFresh : SameControl s.takeFresh s'.takeFresh := by
  simp_all [SameControl]

theorem SameControl.raise (c : BitVec 8) : SameControl (s.raise c) (s'.raise c) := by
  simp_all [SameControl]

theorem SameControl.answered (off : Word) (n : Nat) : SameControl (s.answered off n) (s'.answered off n) := by
  simp_all [SameControl]

/-- START writes its operands, which are no message data. -/
theorem SameControl.start (nn : BitVec 8) (len : Word) :
    SameControl ((((s.setNN nn).setLEN len).setCmd none).advance .init 0 0)
      ((((s'.setNN nn).setLEN len).setCmd none).advance .init 0 0) := by
  simp_all [SameControl]

/-- The free values after RST are the same where the counter of free values is. -/
theorem SameControl.resetBlock : SameControl s.resetBlock s'.resetBlock := by
  simp_all [SameControl, State.resetBlock]

theorem sameControl_hostAct (act : HostAct) : SameControl (hostAct s act) (hostAct s' act) := by
  cases act with
  | poke off b =>
    have hwrite := Memory.offsets_write_congr h.offsets_eq off.toNat b
    simp_all [SameControl, hostAct]
  | wait | present w | withdraw | assertRst | releaseRst | attach msg plan => simp_all [SameControl, hostAct]

theorem sameControl_hostMove : SameControl (hostMove s) (hostMove s') := by
  have hrest (rest : List HostAct) : SameControl { s with host := rest } { s' with host := rest } := by
    simp_all [SameControl]
  unfold hostMove
  rw [h.host_eq]
  split
  · exact h
  · exact sameControl_hostAct (hrest _) _

end

/-! The operations. -/

/-- A move that message data does not steer. -/
def BlindToData (f : State → Out) : Prop := ∀ ⦃s s' : State⦄, SameControl s s' → SameOutcome SameControl (f s) (f s')

/-- MemRead is steered by how many bytes are answered; what follows it has to be blind to the bytes themselves. -/
theorem memRead_blind {k : List Byte → State → Out} {s s' : State} (off : Word) (n : Nat)
    (hk : ∀ bytes bytes', bytes.length = bytes'.length →
      SameOutcome SameControl (k bytes (s.answered off n)) (k bytes' (s'.answered off n)))
    (h : SameControl s s') : SameOutcome SameControl (memRead s off n k) (memRead s' off n k) := by
  have hshape := sameShape_sourceAnswer h.srcPlan_eq h.offsets_eq off n
  unfold memRead
  generalize sourceAnswer s off n = answer, sourceAnswer s' off n = answer' at hshape
  cases hshape with
  | silent => exact h
  | err code => exact (h.answered off n).raise code
  | ok hlen =>
    simp only [hlen]
    split
    · exact rfl
    · exact hk _ _ hlen

theorem takeBlock_blind {bytes bytes' : List Byte} {s s' : State} (hlen : bytes.length = bytes'.length)
    (h : SameControl s s') : SameOutcome SameControl (takeBlock bytes s) (takeBlock bytes' s') := by
  unfold takeBlock
  rw [hlen, h.T_eq]
  split
  · exact h.raise causeShort
  · exact (((h.setBLK _ _).setT rfl).setLAST false).setSEQ rfl

theorem takeFinalBlock_blind (bytes bytes' : List Byte) {s s' : State} (h : SameControl s s') :
    SameOutcome SameControl (takeFinalBlock bytes s) (takeFinalBlock bytes' s') :=
  (((h.setBLK _ _).setT h.LEN_eq).setLAST true).setSEQ rfl

theorem execStart_blind (nn : BitVec 8) (len : BitVec 64) : BlindToData (execStart nn len) := by
  intro s s' h
  unfold execStart
  rw [status_congr h.SEQ_eq]
  split
  · exact h
  · split
    · exact h.start nn len
    · exact rfl

theorem execSel_blind : BlindToData execSel := by
  intro s s' h
  refine h.setSEQ ?_
  rw [moreThanBlockLeft, moreThanBlockLeft, h.T_eq, h.LEN_eq]

theorem execLoadn_blind : BlindToData execLoadn := by
  intro s s' h
  unfold execLoadn
  rw [h.T_eq]
  exact memRead_blind _ _ (fun _ _ hlen => takeBlock_blind hlen (h.answered _ _)) h

theorem execLoadf_blind : BlindToData execLoadf := by
  intro s s' h
  unfold execLoadf
  rw [h.T_eq, h.LEN_eq]
  split
  · exact memRead_blind _ _ (fun bytes bytes' _ => takeFinalBlock_blind bytes bytes' (h.answered _ _)) h
  · exact rfl

theorem mixStep_blind (k : Fin 8) (r : Fin 12) : BlindToData (mixStep k r) :=
  fun _ _ h => (h.setV _ _).setSEQ rfl

theorem execFold_blind : BlindToData execFold := by
  intro s s' h
  refine (h.setH _ _).setSEQ ?_
  rw [h.LAST_eq]

theorem exec_blind (i : Instr) : BlindToData (exec i) := by
  intro s s' h
  cases i with
  | start nn len => exact execStart_blind nn len h
  | init => exact ((((h.setH _ _).setT rfl).setDIGEST _ _).takeFresh).setSEQ rfl
  | sel => exact execSel_blind h
  | loadn => exact execLoadn_blind h
  | loadf => exact execLoadf_blind h
  | vset => exact (h.setV _ _).setSEQ rfl
  | mdec => exact (h.setM _ _).setSEQ rfl
  | g0 r | g1 r | g2 r | g3 r | g4 r | g5 r | g6 r | g7 r => exact mixStep_blind _ r h
  | fold => exact execFold_blind h
  | emit => exact ((h.setDIGEST _ _).takeFresh).setSEQ rfl
  | idle | done | error => exact h

/-! Steps and runs. -/

theorem nextOperation_congr {s s' : State} (hSEQ : s.SEQ = s'.SEQ) (hcmd : s.cmd = s'.cmd) :
    nextOperation s = nextOperation s' := by
  simp only [nextOperation, accepted, hSEQ, hcmd, status_congr hSEQ]

theorem blockMove_blind : BlindToData blockMove := by
  intro s s' h
  unfold blockMove
  rw [h.rst_eq, nextOperation_congr h.SEQ_eq h.cmd_eq]
  split
  · exact h.resetBlock
  · cases nextOperation s' with
    | ok i => exact exec_blind i h
    | bad e => exact rfl

theorem step_blind : BlindToData step := fun _ _ h => blockMove_blind (sameControl_hostMove h)

/-- A relation that one step keeps, or ends in the same stop, every run keeps. -/
theorem sameOutcome_runSteps {R : State → State → Prop} (hstep : ∀ ⦃s s'⦄, R s s' → SameOutcome R (step s) (step s'))
    (k : Nat) {s s' : State} (h : R s s') : SameOutcome R (runSteps k s) (runSteps k s') := by
  induction k generalizing s s' with
  | zero => exact h
  | succ k ih =>
    have hone := hstep h
    cases hs : step s <;> cases hs' : step s' <;> rw [hs, hs'] at hone
    case next.next t t' =>
      rw [runSteps_succ_of_next hs, runSteps_succ_of_next hs']
      exact ih hone
    case fault.fault f f' =>
      rw [runSteps_succ_of_fault hs, runSteps_succ_of_fault hs']
      exact hone
    case refused.refused e e' =>
      rw [runSteps_succ_of_refused hs, runSteps_succ_of_refused hs']
      exact hone
    all_goals exact hone.elim

/-- Settles O52: the relation is kept by each step, whatever operation it runs, and so by every run. -/
theorem messageBytesNeverSteerTheSequencer : Obligations.MessageBytesNeverSteerTheSequencer :=
  fun _ _ k h => sameOutcome_runSteps step_blind k h

end Sys2Proof.Machine
end

section
/-!
Every step keeps the invariant (30_encoding.md R68; 41_digest_driver.md R115, R120, R121): first what the counter does in
each operation of the driver, then operation by operation, then the block's move and the host's.
-/
namespace Sys2Proof.Machine

/-! The counter (R115, R120). -/

/-- INIT begins a run with no byte taken (R111). -/
theorem counterInv_of_zero {s : State} (hT : s.T = 0) : CounterInv s := by
  have hzero : s.T.toNat = 0 := by rw [hT]; rfl
  simp only [CounterInv, hzero]
  omega

theorem moreThanBlockLeft_iff (s : State) : moreThanBlockLeft s = true ↔ s.T.toNat + 128 < s.LEN.toNat := by
  rw [moreThanBlockLeft, decide_eq_true_iff]
  omega

/-- LOADN counts a whole block, and more remains: the addition does not wrap (R113). -/
theorem loadedInv_of_nonFinal {s t : State} (hcounter : CounterInv s) (hleft : s.T.toNat + 128 < s.LEN.toNat)
    (hLAST : t.LAST = false) (hT : t.T = s.T + 128) (hLEN : t.LEN = s.LEN) : LoadedInv t := by
  have hadd : (s.T + 128).toNat = s.T.toNat + 128 := by
    have hlen : s.LEN.toNat < 2 ^ 64 := s.LEN.isLt
    rw [BitVec.toNat_add]
    exact Nat.mod_eq_of_lt (hleft.trans hlen)
  obtain ⟨haligned, -⟩ := hcounter
  simp only [LoadedInv, hLAST, hT, hLEN, hadd, Bool.false_eq_true, if_false]
  omega

/-- LOADF counts all there is (R114). -/
theorem loadedInv_of_final {t : State} (hLAST : t.LAST = true) (hT : t.T = t.LEN) : LoadedInv t := by
  rwa [LoadedInv, if_pos hLAST]

/-- After a block that is not the last, SEL finds the counter below LEN (R120). -/
theorem counterInv_of_loaded {s : State} (hloaded : LoadedInv s) (hLAST : s.LAST = false) : CounterInv s := by
  simp only [LoadedInv, hLAST, Bool.false_eq_true, if_false] at hloaded
  obtain ⟨haligned, -, hlt⟩ := hloaded
  exact ⟨haligned, hlt.le, .inl hlt⟩

/-- The bytes EMIT writes are those DONE promises (R116). -/
theorem digestInv_of_emitted {s t : State} {d : Vector Byte 64} (hNN : t.NN = s.NN) (hH : t.H = s.H)
    (hDIGEST : t.DIGEST = memWrite d 0 s.NN.toNat (digestBytes s.H s.NN)) : DigestInv t := by
  intro j hj
  simp only [hNN] at hj
  simp only [hDIGEST, hH]
  exact emitted_get d s.H s.NN j j.isLt hj

/-! The operations. -/

/-- SEQ holds a legal word, and what its operation relies on holds. -/
def SequencerInv (s : State) : Prop := ∃ i, decode (.sequencer s.SEQ) = .ok i ∧ PhaseInv s i

theorem inv_iff (s : State) : Inv s ↔ SequencerInv s ∧ Memory.wf s.mem = true := Iff.rfl

/-- Taking an exception leads to ERROR, of which the invariant asks nothing more (60_exceptions.md R165). -/
theorem sequencerInv_raise (s : State) (c : BitVec 8) : SequencerInv (s.raise c) :=
  ⟨.error, decode_seqWord_error, trivial⟩

/-- SEL chooses the load by what remains (R112). -/
theorem execSel_sequencerInv {s t : State} (hphase : PhaseInv s .sel) (h : execSel s = .next t) : SequencerInv t := by
  obtain ⟨hlegal, hcounter⟩ := hphase
  obtain rfl := Host.Outcome.next.inj h
  cases hmore : moreThanBlockLeft s with
  | true => exact ⟨.loadn, decode_seqWord_loadn, hlegal, hcounter, (moreThanBlockLeft_iff s).mp hmore⟩
  | false =>
    have hrest : ¬ s.T.toNat + 128 < s.LEN.toNat := by simp [← moreThanBlockLeft_iff, hmore]
    exact ⟨.loadf, decode_seqWord_loadf, hlegal, hcounter, Nat.le_of_not_lt hrest⟩

/-- LOADN waits, raises, or goes on to VSET with a whole block counted. -/
theorem execLoadn_sequencerInv {s t : State} (hdecode : decode (.sequencer s.SEQ) = .ok .loadn)
    (hphase : PhaseInv s .loadn) (h : execLoadn s = .next t) : SequencerInv t := by
  obtain ⟨-, rfl⟩ | ⟨code, -, rfl⟩ | ⟨bytes, -, ⟨-, rfl⟩ | ⟨-, rfl⟩⟩ := execLoadn_next h
  · exact ⟨.loadn, hdecode, hphase⟩
  · exact sequencerInv_raise _ code
  · exact sequencerInv_raise _ causeShort
  · obtain ⟨hlegal, hcounter, hleft⟩ := hphase
    exact ⟨.vset, decode_seqWord_vset, by simpa using hlegal,
      loadedInv_of_nonFinal hcounter hleft rfl rfl (by simp)⟩

/-- LOADF waits, raises, or goes on to VSET with all bytes counted. -/
theorem execLoadf_sequencerInv {s t : State} (hdecode : decode (.sequencer s.SEQ) = .ok .loadf)
    (hphase : PhaseInv s .loadf) (h : execLoadf s = .next t) : SequencerInv t := by
  obtain ⟨-, ⟨-, rfl⟩ | ⟨code, -, rfl⟩ | ⟨bytes, -, -, rfl⟩⟩ := execLoadf_next h
  · exact ⟨.loadf, hdecode, hphase⟩
  · exact sequencerInv_raise _ code
  · exact ⟨.vset, decode_seqWord_vset, by simpa using hphase.1, loadedInv_of_final rfl (by simp)⟩

/-- A mixing micro-operation leads to another or to FOLD, which rely on what it relies on (R89, R115). -/
theorem mixStep_sequencerInv {k : Fin 8} {r : Fin 12} {j : Instr} {s t : State}
    (hphase : legalLength s.NN ∧ LoadedInv s) (hnext : decode (.sequencer (afterMixing r k)) = .ok j)
    (hj : PhaseInv t j ↔ legalLength t.NN ∧ LoadedInv t) (h : mixStep k r s = .next t) : SequencerInv t := by
  obtain rfl := Host.Outcome.next.inj h
  exact ⟨j, hnext, hj.mpr hphase⟩

/-- FOLD ends the run at EMIT, or goes back to SEL with the counter as R120 says. -/
theorem execFold_sequencerInv {s t : State} (hphase : PhaseInv s .fold) (h : execFold s = .next t) :
    SequencerInv t := by
  obtain ⟨hlegal, hloaded⟩ := hphase
  obtain rfl := Host.Outcome.next.inj h
  cases hLAST : s.LAST with
  | true =>
    rw [LoadedInv, if_pos hLAST] at hloaded
    exact ⟨.emit, decode_seqWord_emit, hlegal, hLAST, hloaded⟩
  | false => exact ⟨.sel, decode_seqWord_sel, hlegal, counterInv_of_loaded hloaded hLAST⟩

/-- EMIT writes the digest that DONE promises (R116). -/
theorem execEmit_sequencerInv {s t : State} (hphase : PhaseInv s .emit) (h : execEmit s = .next t) :
    SequencerInv t := by
  obtain ⟨hlegal, -⟩ := hphase
  obtain rfl := Host.Outcome.next.inj h
  exact ⟨.done, decode_seqWord_done, by simpa using hlegal, digestInv_of_emitted (by simp) (by simp) rfl⟩

/-- A START that is accepted leads to INIT with a legal digest length. -/
theorem execStart_sequencerInv {nn : BitVec 8} {len : BitVec 64} {s t : State} (hidle : s.status ≠ .busy)
    (h : execStart nn len s = .next t) : SequencerInv t := by
  obtain ⟨hbusy, -⟩ | ⟨-, hlegal, rfl⟩ := execStart_next h
  · exact absurd hbusy hidle
  · exact ⟨.init, decode_seqWord_init, hlegal⟩

/-- The operation in SEQ leads to a legal word whose operation finds what it relies on. -/
theorem exec_sequencerInv {i : Instr} {s t : State} (hdecode : decode (.sequencer s.SEQ) = .ok i)
    (hphase : PhaseInv s i) (h : exec i s = .next t) : SequencerInv t := by
  cases i with
  | start nn len => exact hphase.elim
  | init =>
    obtain rfl := Host.Outcome.next.inj h
    exact ⟨.sel, decode_seqWord_sel, hphase, counterInv_of_zero rfl⟩
  | sel => exact execSel_sequencerInv hphase h
  | loadn => exact execLoadn_sequencerInv hdecode hphase h
  | loadf => exact execLoadf_sequencerInv hdecode hphase h
  | vset =>
    obtain rfl := Host.Outcome.next.inj h
    exact ⟨.mdec, decode_seqWord_mdec, hphase⟩
  | mdec =>
    obtain rfl := Host.Outcome.next.inj h
    exact ⟨.g0 0, decode_seqWord_g, hphase⟩
  | g0 r => exact mixStep_sequencerInv hphase (decode_afterMixing_0 r) Iff.rfl h
  | g1 r => exact mixStep_sequencerInv hphase (decode_afterMixing_1 r) Iff.rfl h
  | g2 r => exact mixStep_sequencerInv hphase (decode_afterMixing_2 r) Iff.rfl h
  | g3 r => exact mixStep_sequencerInv hphase (decode_afterMixing_3 r) Iff.rfl h
  | g4 r => exact mixStep_sequencerInv hphase (decode_afterMixing_4 r) Iff.rfl h
  | g5 r => exact mixStep_sequencerInv hphase (decode_afterMixing_5 r) Iff.rfl h
  | g6 r => exact mixStep_sequencerInv hphase (decode_afterMixing_6 r) Iff.rfl h
  | g7 r => exact mixStep_sequencerInv hphase (decode_afterMixing_7 r) (by split <;> exact Iff.rfl) h
  | fold => exact execFold_sequencerInv hphase h
  | emit => exact execEmit_sequencerInv hphase h
  | idle | done | error =>
    obtain rfl := Host.Outcome.next.inj h
    exact ⟨_, hdecode, hphase⟩

/-! The step. -/

/-- The host writes no register, and keeps the source's contents canonical. -/
theorem hostMove_inv {s : State} (hinv : Inv s) : Inv (hostMove s) := by
  obtain ⟨⟨i, hdecode, hphase⟩, hmem⟩ := hinv
  obtain ⟨-, hH, -, -, hSEQ, hLAST, hT, hLEN, hNN, -, hDIGEST, -, -⟩ := hostMove_registers s
  rw [← hSEQ] at hdecode
  exact ⟨⟨i, hdecode, (phaseInv_congr i hNN hT hLEN hLAST hH hDIGEST).mpr hphase⟩, hostMove_wf s hmem⟩

/-- No operation writes the source's contents (20_memory.md R49). -/
theorem exec_mem {i : Instr} {s t : State} (h : exec i s = .next t) : t.mem = s.mem := by
  obtain ⟨-, -, -, -, -, -, -, -, -, -, hmem, -, -⟩ := writersOfEachRegister i s t h
  exact hmem

/-- The block's move is RST, an accepted START, or the operation in SEQ. -/
theorem blockMove_inv {s t : State} (hinv : Inv s) (h : blockMove s = .next t) : Inv t := by
  obtain ⟨⟨i, hdecode, hphase⟩, hmem⟩ := hinv
  rw [blockMove_of_legal hdecode] at h
  split at h
  · obtain rfl := Host.Outcome.next.inj h
    exact ⟨⟨.idle, decode_seqWord_idle, trivial⟩, hmem⟩
  · refine (inv_iff t).mpr ⟨?_, by rw [exec_mem h]; exact hmem⟩
    cases ha : accepted s with
    | none => exact exec_sequencerInv hdecode hphase (by simpa [ha] using h)
    | some c =>
      obtain ⟨w, -, hidle, -, rfl⟩ := accepted_some ha
      rw [ha] at h
      exact execStart_sequencerInv hidle h

/-- Settles O46: the host's move keeps the invariant, and then the block's does. -/
theorem everyStepKeepsTheInvariant : Obligations.EveryStepKeepsTheInvariant :=
  fun _ _ hinv h => blockMove_inv (hostMove_inv hinv) h

end Sys2Proof.Machine
end

section
/-!
The encoding (30_encoding.md): the fields of both formats are read back from their places (R61, R66), decoder and encoder
undo each other (R60 to R66), which words are legal (R63) and why the others are not (R68), and what becomes of a reserved
word (R68) and of an illegal digest length (R67).
-/
namespace Sys2Proof.Machine
open Sys2Proof.Laws.WordShape (opField_commandWord)

/-! Format H: `{op, nn, len}` (R66). -/

/-- A concatenation as a number. -/
theorem toNat_append_eq_mul_add {m n : Nat} (x : BitVec m) (y : BitVec n) :
    (x ++ y).toNat = x.toNat * 2 ^ n + y.toNat := by
  rw [BitVec.toNat_append, ← Nat.shiftLeft_add_eq_or_of_lt y.isLt, Nat.shiftLeft_eq]

theorem nnField_commandWord (op nn : BitVec 8) (len : BitVec 64) : nnField (commandWord op nn len) = nn := by
  rw [nnField, commandWord, BitVec.extractLsb'_cast, BitVec.extractLsb'_append_eq_of_le le_rfl]
  exact BitVec.extractLsb'_append_eq_right

theorem lenField_commandWord (op nn : BitVec 8) (len : BitVec 64) : lenField (commandWord op nn len) = len := by
  rw [lenField, commandWord, BitVec.extractLsb'_cast, BitVec.extractLsb'_append_eq_right]

theorem toNat_commandWord (op nn : BitVec 8) (len : BitVec 64) :
    (commandWord op nn len).toNat = op.toNat * 2 ^ 72 + nn.toNat * 2 ^ 64 + len.toNat := by
  rw [commandWord, BitVec.toNat_cast, toNat_append_eq_mul_add, toNat_append_eq_mul_add]
  omega

/-- The three fields are the whole word. -/
theorem commandWord_fields (w : BitVec 80) : commandWord (opField w) (nnField w) (lenField w) = w := by
  rw [commandWord, opField, nnField, lenField,
    BitVec.extractLsb'_append_extractLsb'_eq_extractLsb' (by decide),
    BitVec.extractLsb'_append_extractLsb'_eq_extractLsb' (by decide)]
  exact BitVec.extractLsb'_eq_self

theorem decode_commandWord (nn : BitVec 8) (len : BitVec 64) :
    decode (.command (commandWord opStart nn len)) = .ok (.start nn len) := by
  rw [decode_command, opField_commandWord, if_pos rfl, nnField_commandWord, lenField_commandWord]

/-- A command word that decodes has START's op and is START with its fields. -/
theorem decode_command_ok_iff {w : BitVec 80} {i : Instr} :
    decode (.command w) = .ok i ↔ opField w = opStart ∧ i = .start (nnField w) (lenField w) := by
  rw [decode_command]
  split
  · rename_i hop
    rw [Decoded.ok.injEq]
    exact ⟨fun h => ⟨hop, h.symm⟩, fun h => h.2.symm⟩
  · rename_i hop
    exact ⟨nofun, fun h => absurd h.1 hop⟩

/-- Settles O5, field by field. -/
theorem commandWordFields : Obligations.CommandWordFields := by
  refine ⟨fun op nn len => ⟨?_, ?_, ?_, ?_⟩, commandWord_fields, fun w => ?_, fun nn len => decide_eq_true_iff, by decide⟩
  · exact opField_commandWord op nn len
  · exact nnField_commandWord op nn len
  · exact lenField_commandWord op nn len
  · exact toNat_commandWord op nn len
  · exact ⟨fun ⟨_, h⟩ => (decode_command_ok_iff.mp h).1, fun hop => ⟨_, decode_command_ok_iff.mpr ⟨hop, rfl⟩⟩⟩

/-! Format M: `{PHASE, R, K}` (R61). -/

theorem phaseField_seqWord (p : Phase) (r k : BitVec 4) : phaseField (seqWord p r k) = p.code := by
  rw [phaseField, seqWord, BitVec.extractLsb'_cast, BitVec.extractLsb'_append_eq_of_le (by decide)]
  exact BitVec.extractLsb'_append_eq_left

theorem roundField_seqWord (p : Phase) (r k : BitVec 4) : roundField (seqWord p r k) = r := by
  rw [roundField, seqWord, BitVec.extractLsb'_cast, BitVec.extractLsb'_append_eq_of_le le_rfl]
  exact BitVec.extractLsb'_append_eq_right

theorem invocationField_seqWord (p : Phase) (r k : BitVec 4) : invocationField (seqWord p r k) = k := by
  rw [invocationField, seqWord, BitVec.extractLsb'_cast, BitVec.extractLsb'_append_eq_right]

theorem toNat_seqWord (p : Phase) (r k : BitVec 4) :
    (seqWord p r k).toNat = p.code.toNat * 256 + r.toNat * 16 + k.toNat := by
  rw [seqWord, BitVec.toNat_cast, toNat_append_eq_mul_add, toNat_append_eq_mul_add]
  omega

/-- The three fields are the whole word. -/
theorem seqWord_fields {p : Phase} {w : BitVec 12} (hp : phaseField w = p.code) :
    seqWord p (roundField w) (invocationField w) = w := by
  rw [seqWord, ← hp, phaseField, roundField, invocationField,
    BitVec.extractLsb'_append_extractLsb'_eq_extractLsb' (by decide),
    BitVec.extractLsb'_append_extractLsb'_eq_extractLsb' (by decide)]
  exact BitVec.extractLsb'_eq_self

/-! The decoder by PHASE (R62, R63). -/

theorem decode_of_phase_g {w : BitVec 12} (hp : phaseField w = Phase.g.code) :
    decode (.sequencer w) = decodeMixing (roundField w) (invocationField w) := if_pos hp

theorem decode_of_phase_ne_g {w : BitVec 12} (hp : phaseField w ≠ Phase.g.code) :
    decode (.sequencer w) = decodePlain (phaseField w) (roundField w) (invocationField w) := if_neg hp

/-- With a round of 0..11 the invocation alone decides. -/
theorem decodeMixing_of_operation {r : Fin 12} {k : BitVec 4} {i : Instr} (h : mixingOperation r k.toNat = some i) :
    decodeMixing (BitVec.ofNat 4 r.val) k = .ok i := by
  have hround : (BitVec.ofNat 4 r.val).toNat = r.val := by
    rw [BitVec.toNat_ofNat]
    omega
  simp only [decodeMixing, hround, r.isLt, dite_true, h]

theorem decodeMixing_ok {r k : BitVec 4} {i : Instr} (h : decodeMixing r k = .ok i) :
    ∃ q : Fin 12, BitVec.ofNat 4 q.val = r ∧ mixingOperation q k.toNat = some i := by
  unfold decodeMixing at h
  split at h
  · rename_i hround
    split at h
    · rename_i j hj
      rw [← Decoded.ok.inj h]
      exact ⟨⟨r.toNat, hround⟩, by simp, hj⟩
    · cases h
  · cases h

theorem decodePlain_ok {p r k : BitVec 4} {i : Instr} (h : decodePlain p r k = .ok i) :
    plainOperation p.toNat = some i ∧ r = 0 ∧ k = 0 := by
  unfold decodePlain at h
  split at h
  · rename_i j hj
    split at h
    · rename_i hzero
      rw [← Decoded.ok.inj h]
      exact ⟨hj, hzero⟩
    · cases h
  · cases h

/-! Decoder and encoder undo each other. -/

theorem decode_mixingWord {r : Fin 12} {k : BitVec 4} {i : Instr} (h : mixingOperation r k.toNat = some i) :
    decode (mixingWord r k) = .ok i := by
  rw [mixingWord, decode_of_phase_g (phaseField_seqWord _ _ _), roundField_seqWord, invocationField_seqWord]
  exact decodeMixing_of_operation h

theorem decode_plainWord {p : Phase} {i : Instr} (h : plainOperation p.code.toNat = some i) :
    decode (plainWord p) = .ok i := by
  have hp : phaseField (seqWord p 0 0) ≠ Phase.g.code := by
    rw [phaseField_seqWord]
    intro hg
    rw [hg] at h
    cases h
  rw [plainWord, decode_of_phase_ne_g hp, phaseField_seqWord, roundField_seqWord, invocationField_seqWord, decodePlain, h]
  rfl

/-- Settles O1: START by its fields, `Gk r` by its round and invocation, every other operation by its PHASE. -/
theorem decodeOfEncodeIsIdentity : Obligations.DecodeOfEncodeIsIdentity := by
  intro i
  cases i with
  | start nn len => exact decode_commandWord nn len
  | g0 r | g1 r | g2 r | g3 r | g4 r | g5 r | g6 r | g7 r => exact decode_mixingWord rfl
  | init | sel | loadn | loadf | vset | mdec | fold | emit | idle | done | error => exact decode_plainWord rfl

theorem encode_of_mixingOperation {r : Fin 12} {n : Nat} {i : Instr} (h : mixingOperation r n = some i) :
    encode i = mixingWord r (BitVec.ofNat 4 n) := by
  unfold mixingOperation at h
  split at h <;> cases h <;> rfl

theorem encode_of_plainOperation {n : Nat} {i : Instr} (h : plainOperation n = some i) :
    ∃ p : Phase, p.code.toNat = n ∧ encode i = plainWord p := by
  unfold plainOperation at h
  split at h <;> cases h
  exacts [⟨.idle, rfl, rfl⟩, ⟨.init, rfl, rfl⟩, ⟨.sel, rfl, rfl⟩, ⟨.loadn, rfl, rfl⟩, ⟨.loadf, rfl, rfl⟩,
    ⟨.vset, rfl, rfl⟩, ⟨.mdec, rfl, rfl⟩, ⟨.fold, rfl, rfl⟩, ⟨.emit, rfl, rfl⟩, ⟨.done, rfl, rfl⟩, ⟨.error, rfl, rfl⟩]

theorem encode_of_decode_sequencer {w : BitVec 12} {i : Instr} (h : decode (.sequencer w) = .ok i) :
    encode i = .sequencer w := by
  by_cases hp : phaseField w = Phase.g.code
  · rw [decode_of_phase_g hp] at h
    obtain ⟨r, hr, hi⟩ := decodeMixing_ok h
    rw [encode_of_mixingOperation hi, mixingWord, hr, BitVec.ofNat_toNat, BitVec.setWidth_eq, seqWord_fields hp]
  · rw [decode_of_phase_ne_g hp] at h
    obtain ⟨hi, hr, hk⟩ := decodePlain_ok h
    obtain ⟨p, hcode, hencode⟩ := encode_of_plainOperation hi
    have hword := seqWord_fields (BitVec.eq_of_toNat_eq hcode.symm)
    rw [hr, hk] at hword
    rw [hencode, plainWord, hword]

/-- Settles O2: on either port the word that decodes is put together again from its fields. -/
theorem encodeOfDecodeIsIdentity : Obligations.EncodeOfDecodeIsIdentity := by
  intro c i h
  cases c with
  | command w =>
    obtain ⟨hop, rfl⟩ := decode_command_ok_iff.mp h
    rw [encode, ← hop, commandWord_fields]
  | sequencer w => exact encode_of_decode_sequencer h

/-! The legal words (R63). -/

/-- The word of `Gk r` is 0x700 + 16r + k. -/
theorem mixingWord_eq (r : Fin 12) (k : BitVec 4) :
    mixingWord r k = .sequencer (BitVec.ofNat 12 (0x700 + 16 * r.val + k.toNat)) := by
  rw [mixingWord]
  congr 1
  apply BitVec.eq_of_toNat_eq
  have hg : Phase.g.code.toNat = 7 := rfl
  rw [toNat_seqWord, hg, BitVec.toNat_ofNat, BitVec.toNat_ofNat]
  omega

theorem decode_mixing_number (r : Fin 12) (k : BitVec 4) {i : Instr} (h : mixingOperation r k.toNat = some i) :
    decode (.sequencer (BitVec.ofNat 12 (0x700 + 16 * r.val + k.toNat))) = .ok i := by
  rw [← mixingWord_eq]
  exact decode_mixingWord h

/-- The numbers of the legal words: the 96 of PHASE G between the other eleven. -/
def legalWords : List Nat :=
  [0x000, 0x100, 0x200, 0x300, 0x400, 0x500, 0x600] ++
  ((List.range 12).flatMap fun r => (List.range 8).map fun k => 0x700 + 16 * r + k) ++
  [0x800, 0x900, 0xA00, 0xB00]

theorem mem_legalWords_of_encode {i : Instr} {w : BitVec 12} (h : encode i = .sequencer w) : w.toNat ∈ legalWords := by
  cases i with
  | start nn len => cases h
  | g0 r | g1 r | g2 r | g3 r | g4 r | g5 r | g6 r | g7 r =>
    cases h
    revert r
    decide
  | init | sel | loadn | loadf | vset | mdec | fold | emit | idle | done | error =>
    cases h
    decide

theorem legal_of_mem_legalWords :
    ∀ n ∈ legalWords, (decode (.sequencer (BitVec.ofNat 12 n))).instr?.isSome = true ∧ n < 4096 := by
  decide

theorem nodup_legalWords : legalWords.Nodup := by decide

theorem legal_iff_mem_legalWords {n : Nat} :
    n < 4096 ∧ (decode (.sequencer (BitVec.ofNat 12 n))).instr?.isSome = true ↔ n ∈ legalWords := by
  refine ⟨fun ⟨hn, hlegal⟩ => ?_, fun hn => (legal_of_mem_legalWords n hn).symm⟩
  cases hd : decode (.sequencer (BitVec.ofNat 12 n)) with
  | bad e => simp [hd, Decoded.instr?] at hlegal
  | ok i =>
    have hmem := mem_legalWords_of_encode (encode_of_decode_sequencer hd)
    rwa [BitVec.toNat_ofNat, Nat.mod_eq_of_lt hn] at hmem

/-- The words that decode are those listed, each once. -/
theorem countP_legal :
    (List.range 4096).countP (fun n => (decode (.sequencer (BitVec.ofNat 12 n))).instr?.isSome) = 107 := by
  have hperm : ((List.range 4096).filter fun n => (decode (.sequencer (BitVec.ofNat 12 n))).instr?.isSome).Perm
      legalWords := by
    refine (List.perm_ext_iff_of_nodup (List.nodup_range.filter _) nodup_legalWords).mpr fun n => ?_
    rw [List.mem_filter, List.mem_range, legal_iff_mem_legalWords]
  exact List.countP_eq_length_filter.trans hperm.length_eq

/-- Settles O3: the mixing words by their number, the eleven others one by one, and the count by the list of them. -/
theorem legalSequencerWords : Obligations.LegalSequencerWords :=
  ⟨fun r => ⟨decode_mixing_number r 0 rfl, decode_mixing_number r 1 rfl, decode_mixing_number r 2 rfl,
      decode_mixing_number r 3 rfl, decode_mixing_number r 4 rfl, decode_mixing_number r 5 rfl,
      decode_mixing_number r 6 rfl, decode_mixing_number r 7 rfl⟩,
    decode_idle_word, decode_init_word, decode_sel_word, decode_loadn_word, decode_loadf_word, decode_vset_word,
    decode_mdec_word, decode_fold_word, decode_emit_word, decode_done_word, decode_error_word, countP_legal⟩

/-- Settles O6: most of the printed words are those of the decoder's own examples. -/
theorem printedWordsDecode : Obligations.PrintedWordsDecode :=
  ⟨decode_g5_word, decode_g7_word, decode_g3_word, decode_mixing_number 4 7 rfl, decode_vset_word, decode_emit_word,
    decode_start_word, by decide⟩

/-! The reserved words (R68). -/

theorem plainOperation_of_ge {n : Nat} (h : 0xC ≤ n) : plainOperation n = none := by
  obtain ⟨m, rfl⟩ := Nat.exists_eq_add_of_le' h
  rfl

theorem mixingOperation_of_ge (r : Fin 12) {n : Nat} (h : 8 ≤ n) : mixingOperation r n = none := by
  obtain ⟨m, rfl⟩ := Nat.exists_eq_add_of_le' h
  rfl

/-- Every PHASE code up to 0xB but that of G names an operation without operands (R62). -/
theorem exists_plainOperation :
    ∀ p : BitVec 4, p ≠ Phase.g.code → p.toNat ≤ 0xB → ∃ i, plainOperation p.toNat = some i := by
  simp only [← Option.isSome_iff_exists]
  decide

/-- Settles O4: each clause is one of the decoder's rejecting branches. -/
theorem reservedSequencerWordsAreRejected : Obligations.ReservedSequencerWordsAreRejected := by
  intro w
  refine ⟨fun hp => ?_, fun hp hr => ?_, fun hp hr hk => ?_, fun hp hle hzero => ?_⟩
  · have hne : phaseField w ≠ Phase.g.code := by
      intro hg
      rw [hg] at hp
      exact absurd hp (by decide)
    rw [decode_of_phase_ne_g hne, decodePlain, plainOperation_of_ge hp]
  · rw [decode_of_phase_g hp, decodeMixing, dif_neg (by omega)]
  · rw [decode_of_phase_g hp, decodeMixing, dif_pos (by omega), mixingOperation_of_ge _ hk]
  · obtain ⟨i, hi⟩ := exists_plainOperation _ hp hle
    simp only [decode_of_phase_ne_g hp, decodePlain, hi, if_neg hzero]

/-- Settles O10: the host's move leaves SEQ as it is. -/
theorem reservedWordIsStuck : Obligations.ReservedWordIsStuck := by
  intro s e hrst hreserved
  rw [← hostMove_SEQ] at hreserved
  rw [step, blockMove_of_reserved hreserved, hrst]
  rfl

/-- Settles O14: START's last branch. -/
theorem illegalDigestLengthIsRefused : Obligations.IllegalDigestLengthIsRefused := by
  intro s nn len hidle hillegal
  exact (if_neg hidle).trans (if_neg hillegal)

end Sys2Proof.Machine
end

section
/-!
The Compression Engine (40_compression_engine.md): what each of its micro-operations does (R87, R88, R91, R93 to R100),
that the invocations of a kind commute (R90), and that a run of 99 micro-operations from VSET computes `compress` (R92).
-/
namespace Sys2Proof.Machine

/-! What an operation of the engine writes, its one register and SEQ, as an update of the state. -/

section
variable (s : State) {w w' : BitVec 12} (hw : w = w')
include hw

theorem setV_setSEQ_eq (v : Vector Word 16) : (s.setV v).setSEQ w = { s with V := v, SEQ := w' } := by
  rw [hw]; rfl

theorem setM_setSEQ_eq (m : Vector Word 16) : (s.setM m).setSEQ w = { s with M := m, SEQ := w' } := by
  rw [hw]; rfl

theorem setH_setSEQ_eq (h : Vector Word 8) : (s.setH h).setSEQ w = { s with H := h, SEQ := w' } := by
  rw [hw]; rfl

end

/-! VSET, MDEC and FOLD. -/

/-- Settles O29: each slot is read off the working vector. -/
theorem vsetBuildsTheWorkingVector : Obligations.VsetBuildsTheWorkingVector := by
  intro s
  have hslot := workingVector_get s.H s.T s.LAST
  refine ⟨_, rfl, fun i => ?_, fun i h4 h6 => ?_, ?_, ?_, setV_setSEQ_eq s (by decide) _⟩
  · exact (hslot i.val (by omega)).trans (dif_pos i.isLt)
  · refine (hslot (8 + i.val) (by omega)).trans ?_
    rw [dif_neg (by omega), if_neg (by omega), if_neg (by omega)]
    simp
  · exact hslot 12 (by omega)
  · refine (hslot 14 (by omega)).trans ?_
    cases s.LAST <;> rfl

/-- The decoded block, byte by byte (R88). -/
theorem byteOf_blockWords (b : Vector Byte 128) (i : Fin 16) (j : Fin 8) :
    byteOf (blockWords b)[i] j.val = b[8 * i.val + j.val] := by
  have hword : (blockWords b)[i] = _ := blockWords_get b i.val i.isLt
  rw [hword]
  obtain ⟨h0, h1, h2, h3, h4, h5, h6, h7⟩ := byteOf_le64 b[8 * i.val] b[8 * i.val + 1] b[8 * i.val + 2]
    b[8 * i.val + 3] b[8 * i.val + 4] b[8 * i.val + 5] b[8 * i.val + 6] b[8 * i.val + 7]
  match j with
  | 0 => exact h0
  | 1 => exact h1
  | 2 => exact h2
  | 3 => exact h3
  | 4 => exact h4
  | 5 => exact h5
  | 6 => exact h6
  | 7 => exact h7

/-- Settles O30: the words of the block are those its bytes make up. -/
theorem mdecDecodesLittleEndian : Obligations.MdecDecodesLittleEndian :=
  fun s => ⟨_, rfl, byteOf_blockWords s.BLK, setM_setSEQ_eq s (by decide) _⟩

/-- Where FOLD goes on to, as numbers (R91). -/
theorem afterFold_eq (last : Bool) :
    seqWord (if last then .emit else .sel) 0 0 = if last then 0x900#12 else 0x200#12 := by
  cases last <;> rfl

/-- FOLD as one write of H and one of SEQ. -/
theorem execFold_eq (s : State) :
    execFold s = .next ((s.setH (foldInto s.H s.V)).setSEQ (if s.LAST then 0x900#12 else 0x200#12)) := by
  rw [execFold, State.advance, afterFold_eq]

/-- Settles O37: FOLD's two writes, the first word by word. -/
theorem foldUpdatesTheHashState : Obligations.FoldUpdatesTheHashState :=
  fun s => ⟨_, execFold_eq s, fun i => foldInto_get s.H s.V i.val i.isLt, setH_setSEQ_eq s rfl _⟩

/-! The mixing micro-operations. -/

/-- Every `Gk r` mixes the four slots of its group with its two message words, writes SEQ and changes nothing else
(R89). -/
theorem mixStep_spec {k : Fin 8} {r : Fin 12} {w : BitVec 12} (hnext : afterMixing r k = w) (s : State) :
    ∃ t, mixStep k r s = .next t ∧
      MixResult s.V t.V (group k).a (group k).b (group k).c (group k).d (operandX s.M r k) (operandY s.M r k) ∧
      t = { s with V := t.V, SEQ := w } :=
  ⟨_, rfl, invocation_spec s.M r k s.V, setV_setSEQ_eq s hnext _⟩

/-- Within a round the next word is the next number (R89 line 4). -/
theorem afterMixing_of_lt (r : Fin 12) {k : Fin 8} (hk : k.val < 7) :
    afterMixing r k = BitVec.ofNat 12 (0x701 + k.val + 16 * r.val) := by
  revert r k
  decide

/-- After the last invocation of a round comes the first of the next round, or FOLD (R89 line 4). -/
theorem afterMixing_last (r : Fin 12) :
    afterMixing r 7 = if r.val < 11 then BitVec.ofNat 12 (0x710 + 16 * r.val) else 0x800#12 := by
  revert r
  decide

/-- Settles O31: the rule common to all mixing micro-operations, with the column groups. -/
theorem columnMixings : Obligations.ColumnMixings := fun s r =>
  ⟨mixStep_spec (k := 0) (afterMixing_of_lt r (by decide)) s,
    mixStep_spec (k := 1) (afterMixing_of_lt r (by decide)) s,
    mixStep_spec (k := 2) (afterMixing_of_lt r (by decide)) s,
    mixStep_spec (k := 3) (afterMixing_of_lt r (by decide)) s⟩

/-- Settles O32: the same rule with the diagonal groups. -/
theorem diagonalMixings : Obligations.DiagonalMixings := fun s r =>
  ⟨mixStep_spec (k := 4) (afterMixing_of_lt r (by decide)) s,
    mixStep_spec (k := 5) (afterMixing_of_lt r (by decide)) s,
    mixStep_spec (k := 6) (afterMixing_of_lt r (by decide)) s⟩

/-- Settles O33: the same rule with the last diagonal group. -/
theorem lastMixingOfARound : Obligations.LastMixingOfARound := fun s r =>
  mixStep_spec (k := 7) (afterMixing_last r) s

/-! The slots of an invocation: it writes no other, and what it writes there depends on no other. -/

/-- The four slots of a group. -/
def Group.slots (g : Group) : List (Fin 16) := [g.a, g.b, g.c, g.d]

theorem invocation_of_not_mem {m v : Vector Word 16} {r : Fin 12} {k : Fin 8} {i : Fin 16}
    (hi : i ∉ (group k).slots) : (invocation m r k v)[i] = v[i] := by
  obtain ⟨-, -, -, -, hother⟩ := invocation_spec m r k v
  simp only [Group.slots, List.mem_cons, List.not_mem_nil, or_false, not_or] at hi
  obtain ⟨ha, hb, hc, hd⟩ := hi
  exact hother i ha hb hc hd

theorem invocation_congr {m v w : Vector Word 16} {r : Fin 12} {k : Fin 8}
    (h : ∀ i ∈ (group k).slots, v[i] = w[i]) :
    ∀ i ∈ (group k).slots, (invocation m r k v)[i] = (invocation m r k w)[i] := by
  obtain ⟨hva, hvb, hvc, hvd, -⟩ := invocation_spec m r k v
  obtain ⟨hwa, hwb, hwc, hwd, -⟩ := invocation_spec m r k w
  simp only [Group.slots, List.forall_mem_cons] at h ⊢
  obtain ⟨ha, hb, hc, hd, -⟩ := h
  rw [hva, hvb, hvc, hvd, hwa, hwb, hwc, hwd, ha, hb, hc, hd]
  exact ⟨rfl, rfl, rfl, rfl, nofun⟩

/-- Two invocations of a kind share no slot (R86). -/
theorem slots_disjoint : ∀ {k l : Fin 8}, (k.val < 4 ↔ l.val < 4) → k ≠ l →
    ∀ i ∈ (group k).slots, i ∉ (group l).slots := by
  decide

/-- On the slots of `k` an invocation that shares none of them makes no difference, before or after. -/
theorem invocation_comm_on_slots (m v : Vector Word 16) (r : Fin 12) {k l : Fin 8}
    (hdisjoint : ∀ i ∈ (group k).slots, i ∉ (group l).slots) {i : Fin 16} (hi : i ∈ (group k).slots) :
    (invocation m r k (invocation m r l v))[i] = (invocation m r l (invocation m r k v))[i] :=
  calc (invocation m r k (invocation m r l v))[i]
    _ = (invocation m r k v)[i] := invocation_congr (fun j hj => invocation_of_not_mem (hdisjoint j hj)) i hi
    _ = (invocation m r l (invocation m r k v))[i] := (invocation_of_not_mem (hdisjoint i hi)).symm

/-- Settles O34: slot by slot, by whose slot it is. -/
theorem invocationsOfAKindCommute : Obligations.InvocationsOfAKindCommute := by
  intro m v r k l hkind
  by_cases hkl : k = l
  · rw [hkl]
  · have hdisjoint := slots_disjoint hkind hkl
    have hdisjoint' := slots_disjoint hkind.symm (Ne.symm hkl)
    refine Vector.ext fun n hn => ?_
    show (invocation m r k (invocation m r l v))[(⟨n, hn⟩ : Fin 16)] =
      (invocation m r l (invocation m r k v))[(⟨n, hn⟩ : Fin 16)]
    by_cases hk : ⟨n, hn⟩ ∈ (group k).slots
    · exact invocation_comm_on_slots m v r hdisjoint hk
    · by_cases hl : ⟨n, hn⟩ ∈ (group l).slots
      · exact (invocation_comm_on_slots m v r hdisjoint' hl).symm
      · rw [invocation_of_not_mem hk, invocation_of_not_mem hl, invocation_of_not_mem hl, invocation_of_not_mem hk]

/-- Settles O35, by looking at the eight groups. -/
theorem groupsPartitionTheSlots : Obligations.GroupsPartitionTheSlots := by
  unfold Obligations.GroupsPartitionTheSlots
  decide

/-- Settles O36, by looking at the table. -/
theorem sigmaRowsArePermutations : Obligations.SigmaRowsArePermutations := by
  unfold Obligations.SigmaRowsArePermutations
  decide

/-! A compression as a run (R92). -/

/-- A loop of `n` turns, each a run of `c` steps: if turn `i` leads from `cfg i x` to `cfg (i + 1) (f i x)`, the whole
loop leads to what the turns compute one after the other. -/
theorem runSteps_finRange {α : Type} (c : Nat) (cfg : Nat → α → State) {n : Nat} (f : Fin n → α → α)
    (hturn : ∀ (i : Fin n) (x : α), runSteps c (cfg i.val x) = .next (cfg (i.val + 1) (f i x))) (x : α) :
    runSteps (c * n) (cfg 0 x) = .next (cfg n ((List.finRange n).foldl (fun y i => f i y) x)) := by
  induction n with
  | zero => rfl
  | succ n ih =>
    have hinit := ih (fun i => f i.castSucc) fun i => hturn i.castSucc
    rw [Nat.mul_succ, runSteps_add_of_next hinit, List.finRange_succ_last, List.foldl_append, List.foldl_map]
    exact hturn (Fin.last n) _

/-- The word in SEQ after `n` of the 96 mixing micro-operations: the next of them, or FOLD (R89 line 4). -/
def wordAfterInvocations (n : Nat) : BitVec 12 :=
  if n < 96 then seqWord .g (BitVec.ofNat 4 (n / 8)) (BitVec.ofNat 4 (n % 8)) else seqWord .fold 0 0

/-- `s` after `n` of the 96 mixing micro-operations have left the working vector `v`. -/
def State.mixed (s : State) (n : Nat) (v : Vector Word 16) : State := (s.setV v).setSEQ (wordAfterInvocations n)

theorem wordAfterInvocations_succ (r : Fin 12) (k : Fin 8) :
    wordAfterInvocations (8 * r.val + k.val + 1) = afterMixing r k := by
  revert r k
  decide

theorem wordAfterInvocations_eq (r : Fin 12) (k : Fin 8) :
    wordAfterInvocations (8 * r.val + k.val) = seqWord .g (BitVec.ofNat 4 r.val) (BitVec.ofNat 4 k.val) := by
  rw [wordAfterInvocations, if_pos (by omega), show (8 * r.val + k.val) / 8 = r.val by omega,
    show (8 * r.val + k.val) % 8 = k.val by omega]

theorem statusOf_wordAfterInvocations (r : Fin 12) (k : Fin 8) :
    statusOf (wordAfterInvocations (8 * r.val + k.val)) = .busy := by
  revert r k
  decide

/-- Every invocation of a round is a micro-operation of its own (R63), and it does what R89 says. -/
theorem exists_mixingOperation (r : Fin 12) (k : Fin 8) :
    ∃ i, mixingOperation r k.val = some i ∧ ∀ s, exec i s = mixStep k r s := by
  match k with
  | 0 => exact ⟨.g0 r, rfl, fun _ => rfl⟩
  | 1 => exact ⟨.g1 r, rfl, fun _ => rfl⟩
  | 2 => exact ⟨.g2 r, rfl, fun _ => rfl⟩
  | 3 => exact ⟨.g3 r, rfl, fun _ => rfl⟩
  | 4 => exact ⟨.g4 r, rfl, fun _ => rfl⟩
  | 5 => exact ⟨.g5 r, rfl, fun _ => rfl⟩
  | 6 => exact ⟨.g6 r, rfl, fun _ => rfl⟩
  | 7 => exact ⟨.g7 r, rfl, fun _ => rfl⟩

/-- A step of an undisturbed block whose SEQ holds the word of a busy phase. -/
theorem step_of_undisturbed {s : State} {i : Instr} (hs : Undisturbed s) (w : BitVec 12) (hSEQ : s.SEQ = w)
    (hbusy : statusOf w = .busy) (hdecode : decode (.sequencer w) = .ok i) : step s = exec i s := by
  obtain ⟨hrst, hhost⟩ := hs
  subst hSEQ
  exact step_of_busy hrst hhost hbusy hdecode

section
variable {s : State} (hs : Undisturbed s)
include hs

theorem undisturbed_mixed (n : Nat) (v : Vector Word 16) : Undisturbed (s.mixed n v) := hs

/-- One mixing micro-operation. -/
theorem step_mixed (r : Fin 12) (k : Fin 8) (v : Vector Word 16) :
    step (s.mixed (8 * r.val + k.val) v) = .next (s.mixed (8 * r.val + k.val + 1) (invocation s.M r k v)) := by
  obtain ⟨i, hi, hexec⟩ := exists_mixingOperation r k
  have hk : (BitVec.ofNat 4 k.val).toNat = k.val := by
    rw [BitVec.toNat_ofNat]
    omega
  have hdecode : decode (.sequencer (wordAfterInvocations (8 * r.val + k.val))) = .ok i := by
    rw [wordAfterInvocations_eq]
    exact decode_mixingWord (by rwa [hk])
  have hstep := step_of_undisturbed (undisturbed_mixed hs _ v) _ rfl (statusOf_wordAfterInvocations r k) hdecode
  rw [hstep, hexec, mixStep, ← wordAfterInvocations_succ]
  rfl

/-- The eight mixing micro-operations of a round. -/
theorem runSteps_oneRound (r : Fin 12) (v : Vector Word 16) :
    runSteps 8 (s.mixed (8 * r.val) v) = .next (s.mixed (8 * (r.val + 1)) (oneRound s.M r v)) :=
  runSteps_finRange 1 (fun k => s.mixed (8 * r.val + k)) (invocation s.M r)
    (fun k v => runSteps_succ_of_next (step_mixed hs r k v) 0) v

/-- The 96 mixing micro-operations of a compression. -/
theorem runSteps_rounds (v : Vector Word 16) :
    runSteps 96 (s.mixed 0 v) = .next (s.mixed 96 (rounds s.M v)) :=
  runSteps_finRange 8 (fun r => s.mixed (8 * r)) (oneRound s.M) (runSteps_oneRound hs) v

/-- VSET and MDEC lead to the first mixing micro-operation. -/
theorem runSteps_vset_mdec (hSEQ : s.SEQ = 0x500#12) :
    runSteps 2 s = .next ((s.setM (blockWords s.BLK)).mixed 0 (workingVector s.H s.T s.LAST)) := by
  have hvset : step s = execVset s := step_of_undisturbed hs _ hSEQ (by decide) decode_vset_word
  have hbuilt : Undisturbed ((s.setV (workingVector s.H s.T s.LAST)).advance .mdec 0 0) := hs
  have hmdec := step_of_undisturbed hbuilt (seqWord .mdec 0 0) rfl (by decide) decode_seqWord_mdec
  exact (runSteps_succ_of_next hvset 1).trans (runSteps_succ_of_next hmdec 0)

/-- FOLD ends a compression. -/
theorem runSteps_fold (v : Vector Word 16) :
    runSteps 1 (s.mixed 96 v) =
      .next { s with H := foldInto s.H v, V := v, SEQ := if s.LAST then 0x900#12 else 0x200#12 } := by
  have hfold := step_of_undisturbed (undisturbed_mixed hs 96 v) (seqWord .fold 0 0) rfl (by decide) decode_seqWord_fold
  exact runSteps_succ_of_next (hfold.trans (execFold_eq _)) 0

/-- From the first mixing micro-operation on, a compression mixes for twelve rounds and folds. -/
theorem runSteps_rounds_fold (m v : Vector Word 16) :
    runSteps (96 + 1) ((s.setM m).mixed 0 v) =
      .next { s with
        H := foldInto s.H (rounds m v), V := rounds m v, M := m, SEQ := if s.LAST then 0x900#12 else 0x200#12 } := by
  have hdecoded : Undisturbed (s.setM m) := hs
  exact (runSteps_add_of_next (runSteps_rounds hdecoded v) 1).trans (runSteps_fold hdecoded (rounds m v))

end

/-- Settles O38: VSET and MDEC, then the rounds and FOLD, from the working vector and the words of the block. -/
theorem compressionComputesCompress : Obligations.CompressionComputesCompress := by
  intro s hs hSEQ
  have hrun := runSteps_rounds_fold hs (blockWords s.BLK) (workingVector s.H s.T s.LAST)
  rw [← runSteps_add_of_next (runSteps_vset_mdec hs hSEQ) (96 + 1)] at hrun
  exact ⟨_, hrun, rfl, rfl⟩

end Sys2Proof.Machine
end

section
/-!
The Digest Driver (41_digest_driver.md), operation by operation: INIT (R111), SEL (R112), LOADN (R113), LOADF (R114),
EMIT (R116); the digits of HEX (R117), and what a block does that waits (R121).
-/
namespace Sys2Proof.Machine

/-! INIT and SEL. -/

/-- Settles O15: word 0 is set over IV, and reading another word passes over it. -/
theorem initSetsHashStateAndCounter : Obligations.InitSetsHashStateAndCounter := by
  intro s
  refine ⟨_, rfl, rfl, fun i hi => ?_, rfl, rfl⟩
  exact Vector.getElem_set_ne (by decide) i.isLt hi.symm

/-- Settles O16: the test on integers is the one on naturals, and each answer is a word of SEQ. -/
theorem selComparesWhatRemains : Obligations.SelComparesWhatRemains := by
  intro s
  show execSel s = _
  simp only [execSel, moreThanBlockLeft_iff]
  split <;> rfl

/-! The loads. -/

/-- A load has its request for `n` bytes answered with the block `b`: block, counter and flag are written, and VSET is
next (R113 lines 3 to 6, R114 lines 4 to 8). -/
def State.loaded (s : State) (b : Vector Byte 128) (n : Nat) (t : Word) (last : Bool) : State :=
  ((((s.answered s.T n).setBLK b).setT t).setLAST last).advance .vset 0 0

theorem State.loaded_eq (s : State) (b : Vector Byte 128) (n : Nat) (t : Word) (last : Bool) :
    s.loaded b n t last = { s with
      BLK := b, T := t, LAST := last, SEQ := 0x500#12, srcPlan := s.srcPlan.tail,
      requests := s.requests ++ [⟨s.T, n⟩] } := rfl

/-- Taking an exception as an update of the state (60_exceptions.md R165). -/
theorem State.raise_eq (s : State) (c : BitVec 8) : s.raise c = { s with CAUSE := c, SEQ := 0xB00#12 } := rfl

theorem execLoadn_of_block {s : State} {bytes : List Byte} (hok : sourceAnswer s s.T 128 = .ok bytes)
    (hlen : bytes.length = 128) : execLoadn s = .next (s.loaded (blockOf bytes) 128 (s.T + 128) false) :=
  (memRead_of_ok takeBlock hok hlen.le).trans (if_neg (by omega))

theorem execLoadn_of_short {s : State} {bytes : List Byte} (hok : sourceAnswer s s.T 128 = .ok bytes)
    (hlen : bytes.length < 128) : execLoadn s = .next ((s.answered s.T 128).raise causeShort) :=
  (memRead_of_ok takeBlock hok hlen.le).trans (if_pos hlen)

theorem execLoadn_of_err {s : State} {code : Byte} (herr : sourceAnswer s s.T 128 = .err code) :
    execLoadn s = .next ((s.answered s.T 128).raise code) :=
  memRead_of_err takeBlock herr

section
variable {s : State} (hle : s.T.toNat ≤ s.LEN.toNat) (hcount : s.LEN.toNat - s.T.toNat ≤ 128)
include hle hcount

theorem execLoadf_of_bytes {bytes : List Byte} (hok : sourceAnswer s s.T (s.LEN.toNat - s.T.toNat) = .ok bytes)
    (hlen : bytes.length ≤ s.LEN.toNat - s.T.toNat) :
    execLoadf s = .next (s.loaded (blockOf bytes) (s.LEN.toNat - s.T.toNat) s.LEN true) :=
  (execLoadf_of_inRange hle hcount).trans (memRead_of_ok takeFinalBlock hok hlen)

theorem execLoadf_of_err {code : Byte} (herr : sourceAnswer s s.T (s.LEN.toNat - s.T.toNat) = .err code) :
    execLoadf s = .next ((s.answered s.T (s.LEN.toNat - s.T.toNat)).raise code) :=
  (execLoadf_of_inRange hle hcount).trans (memRead_of_err takeFinalBlock herr)

end

/-- Settles O17: a whole block, a short answer, an error. -/
theorem loadnLoadsANonFinalBlock : Obligations.LoadnLoadsANonFinalBlock := by
  intro s
  refine ⟨fun bytes hok hlen => ?_, fun bytes hok hlen => ?_, fun code herr => ?_⟩
  · refine ⟨_, execLoadn_of_block hok hlen, fun j => ?_, BitVec.toNat_add s.T 128, State.loaded_eq ..⟩
    have hj : j.val < bytes.length := by omega
    have hget : (blockOf bytes)[j.val] = bytes[j.val] := by simp [blockOf_get, hj]
    exact (List.getElem?_eq_getElem hj).trans (congrArg some hget.symm)
  · exact ⟨_, execLoadn_of_short hok hlen, State.raise_eq ..⟩
  · exact ⟨_, execLoadn_of_err herr, State.raise_eq ..⟩

/-- Settles O18: the bytes answered, however few, and an error. -/
theorem loadfLoadsTheFinalBlock : Obligations.LoadfLoadsTheFinalBlock := by
  intro s hle hcount
  refine ⟨fun bytes hok hlen => ?_, fun code herr => ?_⟩
  · refine ⟨_, execLoadf_of_bytes hle hcount hok hlen, fun j => (blockOf_get bytes j.val j.isLt).trans ?_,
      State.loaded_eq ..⟩
    split <;> simp [*]
  · exact ⟨_, execLoadf_of_err hle hcount herr, State.raise_eq ..⟩

/-- Settles O20: LOADF's line 1. -/
theorem finalCountOutsideRangeStops : Obligations.FinalCountOutsideRangeStops :=
  fun _ hrange => if_neg hrange

/-! EMIT. -/

/-- EMIT has written `d` to DIGEST: the free values are used up and DONE is next (R116). -/
def State.emitted (s : State) (d : Vector Byte 64) : State := ((s.setDIGEST d).takeFresh).advance .done 0 0

theorem State.emitted_eq (s : State) (d : Vector Byte 64) :
    s.emitted d = { s with DIGEST := d, fresh := s.fresh + 64, SEQ := 0xA00#12 } := rfl

theorem execEmit_eq (s : State) :
    execEmit s = .next (s.emitted (memWrite (freeDigest s.fresh) 0 s.NN.toNat (digestBytes s.H s.NN))) := rfl

/-- Settles O24: the bytes written below NN, the rest free. -/
theorem emitSerialisesTheHashState : Obligations.EmitSerialisesTheHashState := by
  intro s
  refine ⟨_, execEmit_eq s, fun j hj => emitted_get (freeDigest s.fresh) s.H s.NN j.val j.isLt hj, ?_⟩
  rw [State.emitted_eq]

/-- Settles O25: a legal digest length is within the 64 bytes of the hash state. -/
theorem digestHasTheLengthAsked : Obligations.DigestHasTheLengthAsked := by
  intro msg nn ⟨_, hle⟩
  rw [digest, digestBytes, List.length_take, length_serialise, Nat.min_eq_left hle]

/-! HEX. -/

/-- The digits by number, against the sixteen characters written out. -/
theorem hexDigit_eq_digit : ∀ n : BitVec 4,
    hexDigit n = BitVec.ofNat 8 ("0123456789abcdef".toList.getD n.toNat ' ').toNat := by
  decide

/-- A half of a byte, as a number. -/
theorem toNat_halves (b : Byte) :
    (b.extractLsb' 4 4).toNat = b.toNat / 16 ∧ (b.extractLsb' 0 4).toNat = b.toNat % 16 := by
  rw [BitVec.extractLsb'_toNat, BitVec.extractLsb'_toNat, Nat.shiftRight_eq_div_pow]
  exact ⟨by omega, rfl⟩

theorem readStatus_eq_two_iff {s : State} : readStatus s = 2 ↔ s.status = .done := by
  unfold readStatus
  cases s.status <;> decide

/-- HEX reads one digit of the byte that DIGEST reads. -/
theorem readHex_of_readDigest {s : State} {i : Fin 128} {b : Byte}
    (h : readDigest s ⟨i.val / 2, by omega⟩ = some b) :
    readHex s i = some (hexDigit (if i.val % 2 = 0 then b.extractLsb' 4 4 else b.extractLsb' 0 4)) := by
  rw [readHex, h]

/-- Settles O41: both characters of a byte are read off the byte that DIGEST reads in DONE. -/
theorem hexRendersTheDigest : Obligations.HexRendersTheDigest := by
  intro s j hdone hj
  obtain ⟨hhigh, hlow⟩ := toNat_halves s.DIGEST[j]
  have hread : readDigest s j = some s.DIGEST[j] := if_pos ⟨readStatus_eq_two_iff.mp hdone, hj⟩
  have hread' (n : Nat) (hn : n / 2 = j.val) : readDigest s ⟨n / 2, by omega⟩ = some s.DIGEST[j] := by
    rw [← hread]
    simp only [hn]
  constructor
  · rw [readHex_of_readDigest (hread' (2 * j.val) (by omega)), if_pos (by simp), hexDigit_eq_digit, hhigh]
  · rw [readHex_of_readDigest (hread' (2 * j.val + 1) (by omega)), if_neg (by simp), hexDigit_eq_digit, hlow]

/-! Waiting. -/

/-- Settles O27: in a wait state with no command accepted the step is the host's move. -/
theorem waitStatesChangeNothing : Obligations.WaitStatesChangeNothing := by
  refine ⟨fun s => ⟨rfl, rfl, rfl⟩, fun s hrst hwaiting hnone => ?_⟩
  rw [Waiting, hostMove_SEQ] at hwaiting
  rw [step_of_waiting hrst hwaiting, hnone]
  rfl

/-- Settles O9: the move of a host with no act left is none, so a step leaves the state as it is, and so does a run. -/
theorem undisturbedBlockWaits : Obligations.UndisturbedBlockWaits := by
  refine ⟨fun s ⟨hrst, hhost⟩ hwaiting hnone => ?_, rfl, rfl, ⟨rfl, rfl⟩, rfl⟩
  have hmove := hostMove_nil s hhost
  have hstep : step s = .next s := by
    have h := waitStatesChangeNothing.2 s
    rw [hmove] at h
    exact h hrst hwaiting hnone
  exact ⟨hstep, runSteps_of_fixed hstep⟩

/-! The block count. -/

/-- The quotient of R119, rounded up. -/
theorem ceil_blocks (len : Nat) : ⌈(len : ℚ) / 128⌉₊ = (len + 127) / 128 := by
  refine eq_of_forall_ge_iff fun c => ?_
  rw [Nat.ceil_le, div_le_iff₀ (by norm_num)]
  have hcast : (len : ℚ) ≤ c * 128 ↔ len ≤ c * 128 := by exact_mod_cast Iff.rfl
  rw [hcast]
  omega

/-- Settles O26: with the quotient as a natural number, the rest is arithmetic. -/
theorem blockCount : Obligations.BlockCount := by
  refine ⟨fun len => ?_, by decide⟩
  rw [ceil_blocks, compressions, nonFinalBlocks]
  refine ⟨?_, by omega, by omega, by omega⟩
  split <;> omega

end Sys2Proof.Machine
end

section
/-!
A run from START on (41_digest_driver.md R118, R119; 20_memory.md R46): what is left of the start state at each block, the
micro-operations of one block, and from them the run that ends in DONE and the run that ends in ERROR.
-/
namespace Sys2Proof.Machine

/-! The requests of a run and the source's answers to them. -/

/-- Which block is not the last (R112, R119). -/
theorem lt_nonFinalBlocks_iff {len i : Nat} : i < nonFinalBlocks len ↔ 128 * i + 128 < len := by
  rw [nonFinalBlocks]
  omega

theorem nonFinalBlocks_le (len : Nat) : 128 * nonFinalBlocks len ≤ len ∧ len - 128 * nonFinalBlocks len ≤ 128 := by
  rw [nonFinalBlocks]
  omega

/-- The requests of the first `k` blocks, none of them the last (R46). -/
def blockRequests (k : Nat) : List Request := (List.range k).map fun i => ⟨BitVec.ofNat 64 (128 * i), 128⟩

theorem blockRequests_succ (k : Nat) :
    blockRequests (k + 1) = blockRequests k ++ [⟨BitVec.ofNat 64 (128 * k), 128⟩] := by
  rw [blockRequests, List.range_succ, List.map_append]
  rfl

theorem length_blockRequests (k : Nat) : (blockRequests k).length = k := by
  rw [blockRequests, List.length_map, List.length_range]

theorem requestsOfRun_eq (len : Nat) :
    requestsOfRun len = blockRequests (nonFinalBlocks len) ++
      [⟨BitVec.ofNat 64 (128 * nonFinalBlocks len), len - 128 * nonFinalBlocks len⟩] := rfl

/-- The requests of a run up to the one for block `k`. -/
theorem take_requestsOfRun {len k : Nat} (hk : k ≤ nonFinalBlocks len) :
    (requestsOfRun len).take (k + 1) =
      blockRequests k ++ [⟨BitVec.ofNat 64 (128 * k), min 128 (len - 128 * k)⟩] := by
  rcases hk.lt_or_eq with hlt | rfl
  · have hcount : min 128 (len - 128 * k) = 128 := by
      rw [lt_nonFinalBlocks_iff] at hlt
      omega
    have htaken : (blockRequests (nonFinalBlocks len)).take (k + 1) = blockRequests (k + 1) := by
      rw [blockRequests, ← List.map_take, List.take_range, Nat.min_eq_left hlt]
      rfl
    rw [requestsOfRun_eq, List.take_append_of_le_length (by rw [length_blockRequests]; exact hlt), htaken,
      blockRequests_succ, hcount]
  · rw [Nat.min_eq_right (nonFinalBlocks_le len).2, requestsOfRun_eq, List.take_of_length_le]
    simp [length_blockRequests]

/-- What the source answers depends on its contents and its choices. -/
theorem sourceAnswer_congr {s t : State} (hmem : s.mem = t.mem) (hplan : s.srcPlan = t.srcPlan) (off : Word) (n : Nat) :
    sourceAnswer s off n = sourceAnswer t off n := by
  simp only [sourceAnswer, hmem, hplan]

/-- The bytes an answer carries. -/
def Answer.bytes : Answer → List Byte
  | .ok bytes => bytes
  | .err _ | .silent => []

/-- The hash state of a run that starts from `s` once it has taken `i` blocks, none of them the last (R118). -/
def hashAfter (s : State) (nn : BitVec 8) : Nat → Vector Word 8
  | 0 => initialHash nn
  | i + 1 => compress (hashAfter s nn i) (blockOf (answerTo s 0 i 128).bytes) (BitVec.ofNat 64 (128 * (i + 1))) false

/-! The beginning of a run. -/

/-- The state START leaves (42_host_interface.md R141). -/
def State.started (s : State) (nn : BitVec 8) (len : Word) : State :=
  (((s.setNN nn).setLEN len).setCmd none).advance .init 0 0

theorem status_of_waiting {s : State} (hw : Waiting s) : s.status ≠ .busy := by
  rcases hw with h | h | h <;> rw [State.status, h] <;> decide

/-- A waiting block that is left alone takes the START on CMD, if its digest length is legal. -/
theorem step_of_presents {s : State} {nn : BitVec 8} {len : BitVec 64} (hw : Waiting s) (hu : Undisturbed s)
    (hp : Presents s nn len) :
    step s = if legalLength nn then .next (s.started nn len) else .refused .digestLengthOutsideContract := by
  obtain ⟨hrst, hhost⟩ := hu
  have hidle := status_of_waiting hw
  have haccepted := accepted_of_command hidle hp (decode_commandWord nn len)
  rw [step_of_waiting (by rwa [hostMove_nil s hhost]) hw, hostMove_nil s hhost, haccepted]
  exact if_neg hidle

/-! Where a run stands. -/

/-- `t` stands at the word `w` of block `i` of a run of START nn, len from `s`, the blocks before it answered in full. -/
structure RunAt (s : State) (nn : BitVec 8) (len : Word) (i : Nat) (w : BitVec 12) (t : State) : Prop where
  undisturbed : Undisturbed t
  SEQ : t.SEQ = w
  H : t.H = hashAfter s nn i
  T : t.T = BitVec.ofNat 64 (128 * i)
  LEN : t.LEN = len
  NN : t.NN = nn
  mem : t.mem = s.mem
  srcPlan : t.srcPlan = s.srcPlan.drop i
  requests : t.requests = s.requests ++ blockRequests i

/-- START and INIT lead to SEL with no block taken. -/
theorem runAt_begin {s : State} {nn : BitVec 8} {len : BitVec 64} (hw : Waiting s) (hu : Undisturbed s)
    (hp : Presents s nn len) (hlegal : legalLength nn) :
    ∃ t, runSteps 2 s = .next t ∧ RunAt s nn len 0 0x200#12 t := by
  have hstart : step s = .next (s.started nn len) := (step_of_presents hw hu hp).trans (if_pos hlegal)
  have hstarted : Undisturbed (s.started nn len) := hu
  have hinit := step_of_undisturbed hstarted (seqWord .init 0 0) rfl (by decide) decode_seqWord_init
  exact ⟨_, (runSteps_succ_of_next hstart 1).trans (runSteps_succ_of_next hinit 0),
    hu, rfl, rfl, rfl, rfl, rfl, rfl, rfl, (List.append_nil _).symm⟩

section
variable {s t : State} {nn : BitVec 8} {len : Word} {i : Nat}

/-- The counter as a number: it does not wrap. -/
theorem RunAt.toNat_T {w : BitVec 12} (h : RunAt s nn len i w t) (hi : i ≤ nonFinalBlocks len.toNat) :
    t.T.toNat = 128 * i := by
  have hle := (nonFinalBlocks_le len.toNat).1
  have hlen : len.toNat < 2 ^ 64 := len.isLt
  rw [h.T, BitVec.toNat_ofNat]
  omega

/-- The request a load makes is answered as the run's request for its block. -/
theorem RunAt.sourceAnswer_eq {w : BitVec 12} (h : RunAt s nn len i w t) (n : Nat) :
    sourceAnswer t t.T n = answerTo s 0 i n := by
  rw [h.T, answerTo, Nat.zero_add]
  exact sourceAnswer_congr (t := { s with srcPlan := s.srcPlan.drop i }) h.mem h.srcPlan _ n

/-- The record after the request of block `i`. -/
theorem RunAt.requests_answered {w : BitVec 12} (h : RunAt s nn len i w t) (n : Nat) :
    (t.answered t.T n).requests = s.requests ++ (blockRequests i ++ [⟨BitVec.ofNat 64 (128 * i), n⟩]) := by
  rw [State.answered_requests, h.requests, h.T, List.append_assoc]

/-- At the last block the condition of LOADF's line 1 holds, and the count is what is left (R114, R120). -/
theorem RunAt.lastCount {w : BitVec 12} (h : RunAt s nn len (nonFinalBlocks len.toNat) w t) :
    t.T.toNat ≤ t.LEN.toNat ∧ t.LEN.toNat - t.T.toNat ≤ 128 ∧
    t.LEN.toNat - t.T.toNat = len.toNat - 128 * nonFinalBlocks len.toNat := by
  obtain ⟨hle, hcount⟩ := nonFinalBlocks_le len.toNat
  rw [h.toNat_T le_rfl, h.LEN]
  exact ⟨hle, hcount, rfl⟩

/-- SEL goes on to the load of its block. -/
theorem RunAt.sel (h : RunAt s nn len i 0x200#12 t) (hi : i ≤ nonFinalBlocks len.toNat) :
    ∃ u, step t = .next u ∧ RunAt s nn len i (if i < nonFinalBlocks len.toNat then 0x300#12 else 0x400#12) u := by
  have hsel := (step_of_undisturbed h.undisturbed _ h.SEQ (by decide) decode_sel_word).trans (selComparesWhatRemains t)
  have hmore : t.T.toNat + 128 < t.LEN.toNat ↔ i < nonFinalBlocks len.toNat := by
    rw [h.toNat_T hi, h.LEN, lt_nonFinalBlocks_iff]
  exact ⟨_, hsel, h.undisturbed, if_congr hmore rfl rfl, h.H, h.T, h.LEN, h.NN, h.mem, h.srcPlan, h.requests⟩

theorem RunAt.step_loadn (h : RunAt s nn len i 0x300#12 t) : step t = execLoadn t :=
  step_of_undisturbed h.undisturbed _ h.SEQ (by decide) decode_loadn_word

theorem RunAt.step_loadf (h : RunAt s nn len i 0x400#12 t) : step t = execLoadf t :=
  step_of_undisturbed h.undisturbed _ h.SEQ (by decide) decode_loadf_word

/-- From a load that took its block to the end of the compression (40_compression_engine.md R92). -/
theorem runSteps_of_loaded (hu : Undisturbed t) {b : Vector Byte 128} {n : Nat} {c : Word} {last : Bool}
    (hload : step t = .next (t.loaded b n c last)) :
    ∃ u, runSteps 100 t = .next u ∧ u.H = compress t.H b c last ∧
      u = { t.loaded b n c last with
        H := u.H, V := u.V, M := u.M, SEQ := if last then 0x900#12 else 0x200#12 } := by
  have hloaded : Undisturbed (t.loaded b n c last) := hu
  obtain ⟨u, hrun, hH, hframe⟩ := compressionComputesCompress (t.loaded b n c last) hloaded rfl
  exact ⟨u, (runSteps_succ_of_next hload 99).trans hrun, hH, hframe⟩

/-- The 101 micro-operations of a block that is not the last lead to the next block. -/
theorem RunAt.block (h : RunAt s nn len i 0x200#12 t) (hi : i < nonFinalBlocks len.toNat) {bytes : List Byte}
    (hok : answerTo s 0 i 128 = .ok bytes) (hlen : bytes.length = 128) :
    ∃ u, runSteps 101 t = .next u ∧ RunAt s nn len (i + 1) 0x200#12 u := by
  obtain ⟨u, hsel, hu⟩ := h.sel hi.le
  rw [if_pos hi] at hu
  have hload := hu.step_loadn.trans (execLoadn_of_block ((hu.sourceAnswer_eq 128).trans hok) hlen)
  have hT : u.T + 128 = BitVec.ofNat 64 (128 * (i + 1)) := by
    rw [hu.T, Nat.mul_succ, BitVec.ofNat_add]
    rfl
  generalize hb : blockOf bytes = b at hload
  obtain ⟨v, hrun, hH, hframe⟩ := runSteps_of_loaded hu.undisturbed hload
  refine ⟨v, (runSteps_succ_of_next hsel 100).trans hrun, ?_, ?_, ?hash, ?_, ?_, ?_, ?_, ?_, ?_⟩
  case hash => rw [hH, hu.H, hT, hashAfter, hok, Answer.bytes, hb]
  all_goals rw [hframe]
  · exact hu.undisturbed
  · rfl
  · exact hT
  · exact hu.LEN
  · exact hu.NN
  · exact hu.mem
  · show u.srcPlan.tail = _
    rw [hu.srcPlan, List.tail_drop]
  · rw [blockRequests_succ]
    exact hu.requests_answered 128

end

/-- The run up to block `k`: every block before it is answered in full. -/
theorem runAt_block {s : State} {nn : BitVec 8} {len : BitVec 64} (hw : Waiting s) (hu : Undisturbed s)
    (hp : Presents s nn len) (hlegal : legalLength nn) {k : Nat} (hk : k ≤ nonFinalBlocks len.toNat)
    (hfull : AnsweredInFull s 0 k) : ∃ t, runSteps (2 + 101 * k) s = .next t ∧ RunAt s nn len k 0x200#12 t := by
  induction k with
  | zero => exact runAt_begin hw hu hp hlegal
  | succ k ih =>
    obtain ⟨t, hrun, ht⟩ := ih (by omega) fun j hj => hfull j (by omega)
    obtain ⟨bytes, hok, hlen⟩ := hfull k (by omega)
    obtain ⟨u, hblock, hu⟩ := ht.block hk hok hlen
    exact ⟨u, (runSteps_add_of_next hrun 101).trans hblock, hu⟩

/-! A run that ends in ERROR. -/

/-- What the host reads after an exception: the cause and no digest (60_exceptions.md R174). -/
theorem reads_raise (s : State) (c : Byte) :
    readStatus (s.raise c) = 3 ∧ readCause (s.raise c) = some c ∧ ∀ j, readDigest (s.raise c) j = none := by
  have hstatus : (s.raise c).status = .error := (by decide : statusOf (seqWord .error 0 0) = .error)
  refine ⟨by rw [readStatus, hstatus]; rfl, if_pos hstatus, fun j => if_neg ?_⟩
  rw [hstatus]
  exact fun h => nomatch h.1

/-- SEL and a load that fails. -/
theorem RunAt.fail {s t : State} {nn : BitVec 8} {len : Word} {k : Nat} {code : Byte} (h : RunAt s nn len k 0x200#12 t)
    (hk : k ≤ nonFinalBlocks len.toNat)
    (hfail : answerTo s 0 k (min 128 (len.toNat - 128 * k)) = .err code ∨
      (k < nonFinalBlocks len.toNat ∧ code = 3 ∧
        ∃ bytes, answerTo s 0 k 128 = .ok bytes ∧ bytes.length < 128)) :
    ∃ u w, RunAt s nn len k w u ∧
      runSteps 2 t = .next ((u.answered u.T (min 128 (len.toNat - 128 * k))).raise code) := by
  obtain ⟨u, hsel, hu⟩ := h.sel hk
  refine ⟨u, _, hu, (runSteps_succ_of_next hsel 1).trans (runSteps_succ_of_next ?_ 0)⟩
  rcases hk.lt_or_eq with hlt | rfl
  · have hcount : min 128 (len.toNat - 128 * k) = 128 := by
      rw [lt_nonFinalBlocks_iff] at hlt
      omega
    rw [if_pos hlt] at hu
    rw [hcount, ← hu.sourceAnswer_eq] at hfail
    rw [hu.step_loadn, hcount]
    obtain herr | ⟨-, rfl, bytes, hok, hshort⟩ := hfail
    · exact execLoadn_of_err herr
    · exact execLoadn_of_short hok hshort
  · rw [if_neg (lt_irrefl _)] at hu
    obtain ⟨hle, hcount, hleft⟩ := hu.lastCount
    obtain herr | ⟨hlt, -⟩ := hfail
    · rw [← hleft, Nat.min_eq_right hcount] at herr ⊢
      exact hu.step_loadf.trans (execLoadf_of_err hle hcount ((hu.sourceAnswer_eq _).trans herr))
    · exact absurd hlt (lt_irrefl _)

/-- Settles O50: the run up to the block that fails, SEL and its load. -/
theorem failedRunYieldsTheCause : Obligations.FailedRunYieldsTheCause := by
  intro s nn len k code hw hu hp hlegal hk hfull hfail
  obtain ⟨t, hrun, ht⟩ := runAt_block hw hu hp hlegal hk hfull
  obtain ⟨u, w, hat, hraise⟩ := ht.fail hk hfail
  obtain ⟨hstatus, hcause, hdigest⟩ := reads_raise (u.answered u.T (min 128 (len.toNat - 128 * k))) code
  refine ⟨_, ?_, hstatus, hcause, hdigest, ?_⟩
  · rw [show 1 + (101 * k + 3) = 2 + 101 * k + 2 by omega, runSteps_add_of_next hrun, hraise]
  · rw [State.raise_requests, hat.requests_answered, take_requestsOfRun hk]

/-! A run that ends in DONE. -/

section
variable {s : State} {msg : List Byte} (hm : HoldsMessage s msg) (hserves : ∀ act ∈ s.srcPlan, act = .serve)
include hm hserves

/-- A source that holds the message and serves answers the requests of the run with its blocks. -/
theorem answerTo_of_serves {i n : Nat} (hn : 128 * i + n ≤ msg.length) (hoff : 128 * i < 2 ^ 64) :
    answerTo s 0 i n = .ok ((msg.drop (128 * i)).take n) := by
  have hplan : s.srcPlan.drop i = [] ∨ (s.srcPlan.drop i).head? = some .serve := by
    cases hrest : s.srcPlan.drop i with
    | nil => exact .inl rfl
    | cons act rest =>
      have hact : act ∈ s.srcPlan.drop i := by simp [hrest]
      exact .inr (congrArg some (hserves act (List.mem_of_mem_drop hact)))
  rw [answerTo, Nat.zero_add]
  exact sourceServesItsMessage { s with srcPlan := s.srcPlan.drop i } msg _ n hm hn hoff hplan

variable (hsize : msg.length < 2 ^ 64)
include hsize

theorem answerTo_of_nonFinal {i : Nat} (hi : i < nonFinalBlocks msg.length) :
    answerTo s 0 i 128 = .ok ((msg.drop (128 * i)).take 128) := by
  rw [lt_nonFinalBlocks_iff] at hi
  exact answerTo_of_serves hm hserves hi.le (by omega)

theorem answeredInFull_of_serves : AnsweredInFull s 0 (nonFinalBlocks msg.length) := by
  intro i hi
  refine ⟨_, answerTo_of_nonFinal hm hserves hsize hi, ?_⟩
  rw [lt_nonFinalBlocks_iff] at hi
  rw [List.length_take, List.length_drop]
  omega

/-- The loop of R118, from block `i` on, computes what the run does. -/
theorem absorb_hashAfter (nn : BitVec 8) {fuel i : Nat} (hi : i ≤ nonFinalBlocks msg.length)
    (hfuel : nonFinalBlocks msg.length ≤ i + fuel) :
    absorb msg fuel (hashAfter s nn i) (128 * i) =
      (hashAfter s nn (nonFinalBlocks msg.length), 128 * nonFinalBlocks msg.length) := by
  induction fuel generalizing i with
  | zero =>
    obtain rfl : i = nonFinalBlocks msg.length := by omega
    rfl
  | succ fuel ih =>
    rw [absorb]
    rcases hi.lt_or_eq with hlt | rfl
    · have hmore := lt_nonFinalBlocks_iff.mp hlt
      have hblock : blockOf (answerTo s 0 i 128).bytes = blockAt msg (128 * i) := by
        rw [answerTo_of_nonFinal hm hserves hsize hlt, blockAt]
        refine Vector.ext fun j hj => ?_
        simp [blockOf_get _ j hj, Answer.bytes, List.getElem?_take_of_lt hj]
      rw [if_pos (by omega), ← hblock]
      exact ih hlt (by omega)
    · have hdone := lt_irrefl (nonFinalBlocks msg.length)
      rw [lt_nonFinalBlocks_iff] at hdone
      rw [if_neg (by omega)]

/-- The last compression of a run gives the hash state of the message (R118). -/
theorem finalHash_eq (nn : BitVec 8) :
    finalHash msg nn = compress (hashAfter s nn (nonFinalBlocks msg.length))
      (blockAt msg (128 * nonFinalBlocks msg.length)) (BitVec.ofNat 64 msg.length) true := by
  have hfuel : nonFinalBlocks msg.length ≤ 0 + msg.length := by
    rw [nonFinalBlocks]
    omega
  have hloop := absorb_hashAfter hm hserves hsize nn (Nat.zero_le _) hfuel
  rw [hashAfter, Nat.mul_zero] at hloop
  rw [finalHash, hloop]

end

/-- SEL, LOADF and the last compression. -/
theorem RunAt.final {s t : State} {nn : BitVec 8} {len : Word}
    (h : RunAt s nn len (nonFinalBlocks len.toNat) 0x200#12 t) {bytes : List Byte}
    (hok : answerTo s 0 (nonFinalBlocks len.toNat) (len.toNat - 128 * nonFinalBlocks len.toNat) = .ok bytes)
    (hlen : bytes.length ≤ len.toNat - 128 * nonFinalBlocks len.toNat) :
    ∃ u, runSteps 101 t = .next u ∧ Undisturbed u ∧ u.SEQ = 0x900#12 ∧ u.NN = nn ∧
      u.H = compress (hashAfter s nn (nonFinalBlocks len.toNat)) (blockOf bytes) len true ∧
      u.requests = s.requests ++ requestsOfRun len.toNat := by
  obtain ⟨u, hsel, hu⟩ := h.sel le_rfl
  rw [if_neg (lt_irrefl _)] at hu
  obtain ⟨hle, hcount, hleft⟩ := hu.lastCount
  rw [← hleft] at hok hlen
  have hload := hu.step_loadf.trans (execLoadf_of_bytes hle hcount ((hu.sourceAnswer_eq _).trans hok) hlen)
  generalize blockOf bytes = b at hload ⊢
  obtain ⟨v, hrun, hH, hframe⟩ := runSteps_of_loaded hu.undisturbed hload
  refine ⟨v, (runSteps_succ_of_next hsel 100).trans hrun, ?_, ?_, ?_, ?hash, ?_⟩
  case hash => rw [hH, hu.H, hu.LEN]
  all_goals rw [hframe]
  · exact hu.undisturbed
  · rfl
  · exact hu.NN
  · rw [requestsOfRun_eq, ← hleft]
    exact hu.requests_answered _

/-- The bytes of a digest, one by one (R116). -/
theorem getElem?_digestBytes (h : Vector Word 8) {nn : BitVec 8} {j : Nat} (hj : j < 64) (hn : j < nn.toNat) :
    (digestBytes h nn)[j]? = some (byteOf (h[j / 8]'(by omega)) (j % 8)) := by
  rw [digestBytes, List.getElem?_take_of_lt hn, List.getElem?_eq_getElem (by rwa [length_serialise]),
    serialise_get h j hj]

theorem State.emitted_requests (s : State) (d : Vector Byte 64) : (s.emitted d).requests = s.requests := rfl

/-- What the host reads after EMIT: DONE, and below NN the bytes that EMIT wrote. -/
theorem reads_emitted (s : State) (d : Vector Byte 64) :
    readStatus (s.emitted d) = 2 ∧
    ∀ j : Fin 64, j.val < s.NN.toNat → readDigest (s.emitted d) j = some d[j] := by
  have hstatus : (s.emitted d).status = .done :=
    (by decide : statusOf (seqWord .done 0 0) = .done)
  exact ⟨readStatus_eq_two_iff.mpr hstatus, fun j hj => if_pos ⟨hstatus, hj⟩⟩

/-- EMIT ends a run: what the host reads in DONE. -/
theorem step_of_emit {s : State} (hu : Undisturbed s) (hSEQ : s.SEQ = 0x900#12) :
    ∃ t, step s = .next t ∧ readStatus t = 2 ∧
      (∀ j : Fin 64, j.val < s.NN.toNat → readDigest t j = (digestBytes s.H s.NN)[j.val]?) ∧
      t.requests = s.requests := by
  have hstep := (step_of_undisturbed hu _ hSEQ (by decide) decode_emit_word).trans (execEmit_eq s)
  obtain ⟨hstatus, hdigest⟩ := reads_emitted s (memWrite (freeDigest s.fresh) 0 s.NN.toNat (digestBytes s.H s.NN))
  refine ⟨_, hstep, hstatus, fun j hj => ?_, s.emitted_requests _⟩
  rw [getElem?_digestBytes s.H j.isLt hj, hdigest j hj]
  exact congrArg some (emitted_get _ s.H s.NN j.val j.isLt hj)

/-- Settles O49: the run up to the last block, that block and EMIT; R118's loop computes the same. -/
theorem runYieldsTheDigest : Obligations.RunYieldsTheDigest := by
  intro s nn len msg hw hu hp hlegal hlen hm hserves
  have hsize : msg.length < 2 ^ 64 := hlen ▸ len.isLt
  have hfull := answeredInFull_of_serves hm hserves hsize
  have hfinal := finalHash_eq hm hserves hsize nn
  obtain ⟨hle, -⟩ := nonFinalBlocks_le msg.length
  have hok := answerTo_of_serves hm hserves (i := nonFinalBlocks msg.length)
    (n := msg.length - 128 * nonFinalBlocks msg.length) (by omega) (by omega)
  rw [List.take_of_length_le (by simp)] at hok
  have hrest : (msg.drop (128 * nonFinalBlocks msg.length)).length ≤ msg.length - 128 * nonFinalBlocks msg.length :=
    List.length_drop.le
  rw [hlen] at hfull hfinal hok hrest
  obtain ⟨t, hrun, ht⟩ := runAt_block hw hu hp hlegal le_rfl hfull
  obtain ⟨u, hlast, hquiet, hSEQ, hNN, hH, hrequests⟩ := ht.final hok hrest
  obtain ⟨v, hemit, hstatus, hdigest, hsame⟩ := step_of_emit hquiet hSEQ
  refine ⟨v, ?_, hstatus, fun j hj => ?_, hsame.trans hrequests⟩
  · rw [compressions, show ∀ n, 1 + (101 * (n + 1) + 2) = 2 + 101 * n + (101 + 1) by omega, runSteps_add_of_next hrun,
      runSteps_add_of_next hlast, runSteps_succ_of_next hemit, runSteps_zero]
  · rw [digest, hfinal, hdigest j (by rwa [hNN]), hNN, hH, BitVec.ofNat_toNat, BitVec.setWidth_eq]
    rfl

end Sys2Proof.Machine
end

section
/-!
What the host reads in a run does not depend on the past (41_digest_driver.md R122; 10_state.md R28): two blocks that took
the same START agree, before each operation of the run, on all that the run goes on to rely on.
-/
namespace Sys2Proof.Machine

/-! STATUS by the operation in SEQ. -/

/-- STATUS while an operation is in SEQ (10_state.md R21). -/
def statusDuring : Instr → Status
  | .idle => .idle
  | .done => .done
  | .error => .error
  | _ => .busy

theorem statusOf_of_decode {w : BitVec 12} {i : Instr} (h : decode (.sequencer w) = .ok i) :
    statusOf w = statusDuring i := by
  have hw := encodeOfDecodeIsIdentity _ _ h
  cases i with
  | start nn len => cases hw
  | g0 r | g1 r | g2 r | g3 r | g4 r | g5 r | g6 r | g7 r =>
    obtain rfl := Code.sequencer.inj hw
    clear h hw
    revert r
    decide
  | init | sel | loadn | loadf | vset | mdec | fold | emit | idle | done | error =>
    obtain rfl := Code.sequencer.inj hw
    decide

theorem eq_done_of_statusDuring {i : Instr} (h : statusDuring i = .done) : i = .done := by
  cases i with
  | done => rfl
  | _ => exact nomatch h

theorem eq_error_of_statusDuring {i : Instr} (h : statusDuring i = .error) : i = .error := by
  cases i with
  | error => rfl
  | _ => exact nomatch h

/-! The relation of two runs. -/

/-- Two states agree on all that a mixing micro-operation or FOLD, and what comes after it, relies on. -/
def AgreeMixing (s s' : State) : Prop :=
  s.H = s'.H ∧ s.T = s'.T ∧ s.LAST = s'.LAST ∧ s.V = s'.V ∧ s.M = s'.M

/-- Two states agree on what a run at this operation goes on to rely on. At IDLE there is no run, and START is in no
sequencer word. -/
def AgreeAt (s s' : State) : Instr → Prop
  | .start _ _ | .idle => False
  | .init => True
  | .sel | .loadn | .loadf => s.H = s'.H ∧ s.T = s'.T
  | .vset => s.H = s'.H ∧ s.T = s'.T ∧ s.LAST = s'.LAST ∧ s.BLK = s'.BLK
  | .mdec => s.H = s'.H ∧ s.T = s'.T ∧ s.LAST = s'.LAST ∧ s.V = s'.V ∧ s.BLK = s'.BLK
  | .g0 _ | .g1 _ | .g2 _ | .g3 _ | .g4 _ | .g5 _ | .g6 _ | .g7 _ | .fold => AgreeMixing s s'
  | .emit => s.H = s'.H
  | .done => ∀ j : Fin 64, j.val < s'.NN.toNat → s.DIGEST[j] = s'.DIGEST[j]
  | .error => s.CAUSE = s'.CAUSE

/-- No command is there to take and nothing else interferes. -/
def Quiet (s : State) : Prop := Undisturbed s ∧ s.cmd = none

/-- Two states whose runs have the same surroundings: neither is interfered with, and the operands of START and the byte
source are the same. -/
def SameSurroundings (s s' : State) : Prop :=
  Quiet s ∧ Quiet s' ∧ s.NN = s'.NN ∧ s.LEN = s'.LEN ∧ s.mem = s'.mem ∧ s.srcPlan = s'.srcPlan

/-- Two states that stand at the same operation of the same run. -/
def SameRun (s s' : State) : Prop :=
  SameSurroundings s s' ∧ s.SEQ = s'.SEQ ∧ ∃ i, decode (.sequencer s'.SEQ) = .ok i ∧ AgreeAt s s' i

/-- Two states about to execute `i` in the same run. -/
theorem sameRun_at {s s' : State} {w : BitVec 12} (i : Instr) (h : SameSurroundings s s') (hw : s.SEQ = w)
    (hw' : s'.SEQ = w) (hdecode : decode (.sequencer w) = .ok i) (hagree : AgreeAt s s' i) : SameRun s s' :=
  ⟨h, hw.trans hw'.symm, i, hw' ▸ hdecode, hagree⟩

section
variable {s s' : State} (h : SameSurroundings s s')
include h

theorem SameSurroundings.NN_eq : s.NN = s'.NN := by
  obtain ⟨-, -, hNN, -⟩ := h
  exact hNN

theorem SameSurroundings.LEN_eq : s.LEN = s'.LEN := by
  obtain ⟨-, -, -, hLEN, -⟩ := h
  exact hLEN

theorem SameSurroundings.sourceAnswer_eq (off : Word) (n : Nat) : sourceAnswer s off n = sourceAnswer s' off n := by
  obtain ⟨-, -, -, -, hmem, hplan⟩ := h
  exact sourceAnswer_congr hmem hplan off n

theorem SameSurroundings.setV (v v' : Vector Word 16) : SameSurroundings (s.setV v) (s'.setV v') := h
theorem SameSurroundings.setH (x x' : Vector Word 8) : SameSurroundings (s.setH x) (s'.setH x') := h
theorem SameSurroundings.setM (m m' : Vector Word 16) : SameSurroundings (s.setM m) (s'.setM m') := h
theorem SameSurroundings.setT (t t' : Word) : SameSurroundings (s.setT t) (s'.setT t') := h
theorem SameSurroundings.setSEQ (w w' : BitVec 12) : SameSurroundings (s.setSEQ w) (s'.setSEQ w') := h
theorem SameSurroundings.setBLK (b b' : Vector Byte 128) : SameSurroundings (s.setBLK b) (s'.setBLK b') := h
theorem SameSurroundings.setLAST (b b' : Bool) : SameSurroundings (s.setLAST b) (s'.setLAST b') := h
theorem SameSurroundings.setDIGEST (d d' : Vector Byte 64) : SameSurroundings (s.setDIGEST d) (s'.setDIGEST d') := h
theorem SameSurroundings.takeFresh : SameSurroundings s.takeFresh s'.takeFresh := h
theorem SameSurroundings.raise (c c' : BitVec 8) : SameSurroundings (s.raise c) (s'.raise c') := h

theorem SameSurroundings.answered (off : Word) (n : Nat) :
    SameSurroundings (s.answered off n) (s'.answered off n) := by
  obtain ⟨hquiet, hquiet', hNN, hLEN, hmem, hplan⟩ := h
  exact ⟨hquiet, hquiet', hNN, hLEN, hmem, congrArg List.tail hplan⟩

/-- Two runs that take the same exception. -/
theorem SameSurroundings.sameRun_raise (c : BitVec 8) : SameRun (s.raise c) (s'.raise c) :=
  sameRun_at .error (h.raise c c) rfl rfl decode_seqWord_error rfl

/-! The operations. -/

theorem execInit_sameRun : SameOutcome SameRun (execInit s) (execInit s') := by
  refine sameRun_at .sel ((((h.setH _ _).setT _ _).setDIGEST _ _).takeFresh.setSEQ _ _) rfl rfl decode_seqWord_sel
    ⟨?_, rfl⟩
  exact congrArg initialHash h.NN_eq

theorem execSel_sameRun (hagree : s.H = s'.H ∧ s.T = s'.T) : SameOutcome SameRun (execSel s) (execSel s') := by
  have hmore : moreThanBlockLeft s = moreThanBlockLeft s' := by
    rw [moreThanBlockLeft, moreThanBlockLeft, hagree.2, h.LEN_eq]
  rw [execSel, execSel, hmore]
  cases moreThanBlockLeft s' with
  | true => exact sameRun_at .loadn (h.setSEQ _ _) rfl rfl decode_seqWord_loadn hagree
  | false => exact sameRun_at .loadf (h.setSEQ _ _) rfl rfl decode_seqWord_loadf hagree

/-- MemRead of two runs gets the same answer; what follows it has to keep them the same. -/
theorem memRead_sameRun (hstay : SameRun s s') {k : List Byte → State → Out} (off : Word) (n : Nat)
    (hk : ∀ bytes, SameOutcome SameRun (k bytes (s.answered off n)) (k bytes (s'.answered off n))) :
    SameOutcome SameRun (memRead s off n k) (memRead s' off n k) := by
  rw [memRead, memRead, h.sourceAnswer_eq]
  cases sourceAnswer s' off n with
  | silent => exact hstay
  | err code => exact (h.answered off n).sameRun_raise code
  | ok bytes =>
    dsimp only
    split
    · exact rfl
    · exact hk bytes

/-- Two runs that take the same block. -/
theorem loaded_sameRun (hH : s.H = s'.H) (b : Vector Byte 128) {c c' : Word} (hc : c = c') (last : Bool) :
    SameRun ((((s.setBLK b).setT c).setLAST last).advance .vset 0 0)
      ((((s'.setBLK b).setT c').setLAST last).advance .vset 0 0) :=
  sameRun_at .vset ((((h.setBLK b b).setT c c').setLAST last last).setSEQ _ _) rfl rfl decode_seqWord_vset
    ⟨hH, hc, rfl, rfl⟩

theorem takeBlock_sameRun (hagree : s.H = s'.H ∧ s.T = s'.T) (bytes : List Byte) :
    SameOutcome SameRun (takeBlock bytes s) (takeBlock bytes s') := by
  unfold takeBlock
  split
  · exact h.sameRun_raise causeShort
  · exact loaded_sameRun h hagree.1 (blockOf bytes) (by rw [hagree.2]) false

theorem execLoadn_sameRun (hstay : SameRun s s') (hagree : s.H = s'.H ∧ s.T = s'.T) :
    SameOutcome SameRun (execLoadn s) (execLoadn s') := by
  rw [execLoadn, execLoadn, hagree.2]
  exact memRead_sameRun h hstay _ _ fun bytes => takeBlock_sameRun (h.answered _ _) hagree bytes

theorem execLoadf_sameRun (hstay : SameRun s s') (hagree : s.H = s'.H ∧ s.T = s'.T) :
    SameOutcome SameRun (execLoadf s) (execLoadf s') := by
  rw [execLoadf, execLoadf, hagree.2, h.LEN_eq]
  split
  · exact memRead_sameRun h hstay _ _ fun bytes =>
      loaded_sameRun (h.answered _ _) hagree.1 (blockOf bytes) h.LEN_eq true
  · exact rfl

theorem execVset_sameRun (hagree : AgreeAt s s' .vset) : SameOutcome SameRun (execVset s) (execVset s') := by
  obtain ⟨hH, hT, hLAST, hBLK⟩ := hagree
  rw [execVset, execVset, hH, hT, hLAST]
  exact sameRun_at .mdec ((h.setV _ _).setSEQ _ _) rfl rfl decode_seqWord_mdec ⟨hH, hT, hLAST, rfl, hBLK⟩

theorem execMdec_sameRun (hagree : AgreeAt s s' .mdec) : SameOutcome SameRun (execMdec s) (execMdec s') := by
  obtain ⟨hH, hT, hLAST, hV, hBLK⟩ := hagree
  rw [execMdec, execMdec, hBLK]
  generalize blockWords s'.BLK = m
  exact sameRun_at (.g0 0) ((h.setM _ _).setSEQ _ _) rfl rfl decode_seqWord_g ⟨hH, hT, hLAST, hV, rfl⟩

/-- A mixing micro-operation leads to another or to FOLD, which rely on what it relies on (40_compression_engine.md
R89). -/
theorem mixStep_sameRun (hagree : AgreeMixing s s') {k : Fin 8} {r : Fin 12} {j : Instr}
    (hnext : decode (.sequencer (afterMixing r k)) = .ok j) (hj : ∀ t t', AgreeAt t t' j ↔ AgreeMixing t t') :
    SameOutcome SameRun (mixStep k r s) (mixStep k r s') := by
  obtain ⟨hH, hT, hLAST, hV, hM⟩ := hagree
  rw [mixStep, mixStep, hV, hM]
  exact sameRun_at j ((h.setV _ _).setSEQ _ _) rfl rfl hnext ((hj _ _).mpr ⟨hH, hT, hLAST, rfl, hM⟩)

theorem execFold_sameRun (hagree : AgreeMixing s s') : SameOutcome SameRun (execFold s) (execFold s') := by
  obtain ⟨hH, hT, hLAST, hV, hM⟩ := hagree
  rw [execFold, execFold, hH, hV, hLAST]
  cases s'.LAST with
  | true => exact sameRun_at .emit ((h.setH _ _).setSEQ _ _) rfl rfl decode_seqWord_emit rfl
  | false => exact sameRun_at .sel ((h.setH _ _).setSEQ _ _) rfl rfl decode_seqWord_sel ⟨rfl, hT⟩

/-- Two runs that emit digests which agree below NN: the host reads no byte from NN on. -/
theorem emitted_sameRun {d d' : Vector Byte 64} (hd : ∀ j : Fin 64, j.val < s'.NN.toNat → d[j] = d'[j]) :
    SameRun (s.emitted d) (s'.emitted d') :=
  sameRun_at .done ((h.setDIGEST _ _).takeFresh.setSEQ _ _) rfl rfl decode_seqWord_done hd

/-- EMIT writes the same bytes below NN, over free values that are not the same. -/
theorem execEmit_sameRun (hH : s.H = s'.H) : SameOutcome SameRun (execEmit s) (execEmit s') := by
  rw [execEmit_eq, execEmit_eq, hH, h.NN_eq]
  refine emitted_sameRun h fun j hj => ?_
  exact (emitted_get _ s'.H s'.NN j j.isLt hj).trans (emitted_get _ s'.H s'.NN j j.isLt hj).symm

end

theorem exec_sameRun {i : Instr} {s s' : State} (hrun : SameRun s s') (hagree : AgreeAt s s' i) :
    SameOutcome SameRun (exec i s) (exec i s') := by
  have h := hrun.1
  cases i with
  | start nn len | idle => exact hagree.elim
  | init => exact execInit_sameRun h
  | sel => exact execSel_sameRun h hagree
  | loadn => exact execLoadn_sameRun h hrun hagree
  | loadf => exact execLoadf_sameRun h hrun hagree
  | vset => exact execVset_sameRun h hagree
  | mdec => exact execMdec_sameRun h hagree
  | g0 r => exact mixStep_sameRun h hagree (decode_afterMixing_0 r) fun _ _ => Iff.rfl
  | g1 r => exact mixStep_sameRun h hagree (decode_afterMixing_1 r) fun _ _ => Iff.rfl
  | g2 r => exact mixStep_sameRun h hagree (decode_afterMixing_2 r) fun _ _ => Iff.rfl
  | g3 r => exact mixStep_sameRun h hagree (decode_afterMixing_3 r) fun _ _ => Iff.rfl
  | g4 r => exact mixStep_sameRun h hagree (decode_afterMixing_4 r) fun _ _ => Iff.rfl
  | g5 r => exact mixStep_sameRun h hagree (decode_afterMixing_5 r) fun _ _ => Iff.rfl
  | g6 r => exact mixStep_sameRun h hagree (decode_afterMixing_6 r) fun _ _ => Iff.rfl
  | g7 r => exact mixStep_sameRun h hagree (decode_afterMixing_7 r) fun _ _ => by split <;> exact Iff.rfl
  | fold => exact execFold_sameRun h hagree
  | emit => exact execEmit_sameRun h hagree
  | done | error => exact hrun

/-! Steps and reads. -/

/-- A step with nothing to interfere runs the operation in SEQ, in a wait state too. -/
theorem step_of_quiet {s : State} {i : Instr} (hs : Quiet s) (hdecode : decode (.sequencer s.SEQ) = .ok i) :
    step s = exec i s := by
  obtain ⟨⟨hrst, hhost⟩, hcmd⟩ := hs
  have h := stepRunsDecodedOperation s i
  rw [hostMove_nil s hhost] at h
  exact (h hrst hdecode).1 (.inr hcmd)

theorem step_sameRun : ∀ ⦃s s' : State⦄, SameRun s s' → SameOutcome SameRun (step s) (step s') := by
  intro s s' hrun
  obtain ⟨⟨hquiet, hquiet', -⟩, hSEQ, i, hdecode, hagree⟩ := id hrun
  rw [step_of_quiet hquiet (hSEQ ▸ hdecode), step_of_quiet hquiet' hdecode]
  exact exec_sameRun hrun hagree

/-- The host reads the same at the same operation of the same run: CAUSE only in ERROR, DIGEST only in DONE below NN. -/
theorem SameRun.sameReads {s s' : State} (hrun : SameRun s s') : SameReads s s' := by
  obtain ⟨hsurroundings, hSEQ, i, hdecode, hagree⟩ := hrun
  have hstatus : s.status = s'.status := status_congr hSEQ
  have hduring : s'.status = statusDuring i := statusOf_of_decode hdecode
  have hcause : readCause s = readCause s' := by
    rw [readCause, readCause, hstatus]
    split
    · obtain rfl := eq_error_of_statusDuring (hduring.symm.trans ‹_›)
      exact congrArg some hagree
    · rfl
  have hdigest (j : Fin 64) : readDigest s j = readDigest s' j := by
    rw [readDigest, readDigest, hstatus, hsurroundings.NN_eq]
    split
    · rename_i hread
      obtain rfl := eq_done_of_statusDuring (hduring.symm.trans hread.1)
      exact congrArg some (hagree j hread.2)
    · rfl
  refine ⟨?_, hcause, hdigest, fun i => ?_⟩
  · rw [readStatus, readStatus, hstatus]
  · rw [readHex, readHex, hdigest]

theorem SameOutcome.mono {R S : State → State → Prop} (hRS : ∀ s t, R s t → S s t) {o o' : Out}
    (h : SameOutcome R o o') : SameOutcome S o o' := by
  cases o <;> cases o'
  case next.next => exact hRS _ _ h
  all_goals exact h

/-- Settles O51: after the step that takes START the two runs are the same, and stay so. -/
theorem runIsIndependentOfThePast : Obligations.RunIsIndependentOfThePast := by
  intro s s' nn len k hw hw' hu hu' hp hp' hmem hplan hk
  obtain ⟨n, rfl⟩ : ∃ n, k = n + 1 := ⟨k - 1, by omega⟩
  have hstep := step_of_presents hw hu hp
  have hstep' := step_of_presents hw' hu' hp'
  split at hstep
  · have hstarted : SameRun (s.started nn len) (s'.started nn len) :=
      sameRun_at .init ⟨⟨hu, rfl⟩, ⟨hu', rfl⟩, rfl, rfl, hmem, hplan⟩ rfl rfl decode_seqWord_init trivial
    rw [if_pos ‹_›] at hstep'
    rw [runSteps_succ_of_next hstep, runSteps_succ_of_next hstep']
    exact (sameOutcome_runSteps step_sameRun n hstarted).mono fun _ _ => SameRun.sameReads
  · rw [if_neg ‹_›] at hstep'
    rw [runSteps_succ_of_refused hstep, runSteps_succ_of_refused hstep']
    exact rfl

end Sys2Proof.Machine
end

section
/-!
Where a step stops (41_digest_driver.md R120; 30_encoding.md R67, R68; 93_implementation_defined.md U1, U13): from a state of
the invariant no operation faults, and what is refused is a bad digest length or an answer longer than asked.
-/
namespace Sys2Proof.Machine

/-- The source gives more than `n` bytes to the next request. -/
def GivesMoreThan (s : State) (n : Nat) : Prop := ∃ bytes rest, s.srcPlan = .give bytes :: rest ∧ n < bytes.length

theorem takeBlock_ne_stop (bytes : List Byte) (s : State) :
    (∀ f, takeBlock bytes s ≠ .fault f) ∧ ∀ e, takeBlock bytes s ≠ .refused e := by
  unfold takeBlock
  split <;> exact ⟨nofun, nofun⟩

/-- LOADF's line 1 holds where the invariant does (R120). -/
theorem execLoadf_of_phaseInv {s : State} (hphase : PhaseInv s .loadf) :
    execLoadf s = memRead s s.T (s.LEN.toNat - s.T.toNat) takeFinalBlock := by
  obtain ⟨-, ⟨-, hle, -⟩, hcount⟩ := hphase
  exact execLoadf_of_inRange hle (by omega)

/-- No operation faults. -/
theorem exec_ne_fault {i : Instr} {s : State} (hphase : PhaseInv s i) (f : Fault) : exec i s ≠ .fault f := by
  intro h
  cases i with
  | start nn len => exact hphase
  | loadn =>
    obtain ⟨bytes, hk⟩ := memRead_fault h
    exact (takeBlock_ne_stop _ _).1 f hk
  | loadf =>
    obtain ⟨bytes, hk⟩ := memRead_fault ((execLoadf_of_phaseInv hphase).symm.trans h)
    cases hk
  | _ => cases h

/-- Only the loads are refused, for an answer longer than they asked. -/
theorem exec_refused {i : Instr} {s : State} (hphase : PhaseInv s i) {e : Refusal} (h : exec i s = .refused e) :
    e = .answerLongerThanAsked ∧
    (i = .loadn ∧ GivesMoreThan s 128 ∨ i = .loadf ∧ GivesMoreThan s (s.LEN.toNat - s.T.toNat)) := by
  cases i with
  | start nn len => exact hphase.elim
  | loadn =>
    obtain ⟨he, hgives⟩ | ⟨bytes, hk⟩ := memRead_refused h
    · exact ⟨he, .inl ⟨rfl, hgives⟩⟩
    · exact absurd hk ((takeBlock_ne_stop _ _).2 e)
  | loadf =>
    obtain ⟨he, hgives⟩ | ⟨bytes, hk⟩ := memRead_refused ((execLoadf_of_phaseInv hphase).symm.trans h)
    · exact ⟨he, .inr ⟨rfl, hgives⟩⟩
    · cases hk
  | _ => cases h

/-- START never faults. -/
theorem execStart_ne_fault (nn : BitVec 8) (len : BitVec 64) (s : State) (f : Fault) : execStart nn len s ≠ .fault f := by
  unfold execStart
  split
  · exact nofun
  · split <;> exact nofun

/-- START is refused for its digest length alone. -/
theorem execStart_refused {nn : BitVec 8} {len : BitVec 64} {s : State} {e : Refusal}
    (h : execStart nn len s = .refused e) : e = .digestLengthOutsideContract ∧ ¬ legalLength nn := by
  unfold execStart at h
  split at h
  · cases h
  · split at h
    · cases h
    · exact ⟨(Host.Outcome.refused.inj h).symm, ‹_›⟩

/-- The block's move never faults. -/
theorem blockMove_ne_fault {s : State} (hinv : Inv s) (f : Fault) : blockMove s ≠ .fault f := by
  obtain ⟨⟨i, hdecode, hphase⟩, -⟩ := hinv
  rw [blockMove_of_legal hdecode]
  split
  · exact nofun
  · cases ha : accepted s with
    | none => exact exec_ne_fault hphase f
    | some c =>
      obtain ⟨w, -, -, -, rfl⟩ := accepted_some ha
      exact execStart_ne_fault _ _ s f

/-- The block's move is refused for a START that would be accepted, or for a load's answer. -/
theorem blockMove_refused {s : State} (hinv : Inv s) {e : Refusal} (h : blockMove s = .refused e) :
    (e = .digestLengthOutsideContract ∧ s.status ≠ .busy ∧
      ∃ w, s.cmd = some w ∧ opField w = opStart ∧ ¬ legalLength (nnField w)) ∨
    (e = .answerLongerThanAsked ∧
      (s.SEQ = 0x300#12 ∧ GivesMoreThan s 128 ∨ s.SEQ = 0x400#12 ∧ GivesMoreThan s (s.LEN.toNat - s.T.toNat))) := by
  obtain ⟨⟨i, hdecode, hphase⟩, -⟩ := hinv
  rw [blockMove_of_legal hdecode] at h
  split at h
  · cases h
  · cases ha : accepted s with
    | none =>
      obtain ⟨he, hload⟩ := exec_refused hphase (by simpa [ha] using h)
      have hword := encodeOfDecodeIsIdentity _ _ hdecode
      refine .inr ⟨he, hload.imp ?_ ?_⟩ <;> rintro ⟨rfl, hgives⟩ <;>
        exact ⟨(Code.sequencer.inj hword).symm, hgives⟩
    | some c =>
      obtain ⟨w, hcmd, hidle, hop, rfl⟩ := accepted_some ha
      rw [ha] at h
      obtain ⟨he, hillegal⟩ := execStart_refused h
      exact .inl ⟨he, hidle, w, hcmd, hop, hillegal⟩

/-- Settles O47: the host's move keeps the invariant and the registers that say what a load asks for. -/
theorem stepStopsOnlyOutsideTheContract : Obligations.StepStopsOnlyOutsideTheContract := by
  intro s hinv
  have hmoved := hostMove_inv hinv
  refine ⟨blockMove_ne_fault hmoved, fun e h => (blockMove_refused hmoved h).imp_right fun ⟨he, hload⟩ => ⟨he, ?_⟩⟩
  obtain ⟨-, -, -, -, hSEQ, -, hT, hLEN, -⟩ := hostMove_registers s
  rw [hSEQ, hT, hLEN] at hload
  obtain ⟨hword, bytes, rest, hplan, hlong⟩ | ⟨hword, bytes, rest, hplan, hlong⟩ := hload
  · exact ⟨bytes, rest, hplan, .inl ⟨hword, hlong⟩⟩
  · exact ⟨bytes, rest, hplan, .inr ⟨hword, hlong⟩⟩

end Sys2Proof.Machine
end

section
/-!
The host interface (42_host_interface.md): what START writes (R141), which word the port accepts and what becomes of a
word that is held (R142), a word whose `op` is reserved (R147), and where the host's reads have a value (R143).
-/
namespace Sys2Proof.Machine

/-! START (R141). -/

theorem State.started_eq (s : State) (nn : BitVec 8) (len : Word) :
    s.started nn len = { s with NN := nn, LEN := len, SEQ := 0x100#12, cmd := none } := rfl

theorem execStart_of_busy {s : State} (hbusy : s.status = .busy) (nn : BitVec 8) (len : BitVec 64) :
    execStart nn len s = .next s := if_pos hbusy

theorem execStart_of_accepted {s : State} (hidle : s.status ≠ .busy) {nn : BitVec 8} (hlegal : legalLength nn)
    (len : BitVec 64) : execStart nn len s = .next (s.started nn len) := (if_neg hidle).trans (if_pos hlegal)

/-- The word START puts in SEQ is that of INIT. -/
theorem status_started (s : State) (nn : BitVec 8) (len : Word) : (s.started nn len).status = .busy :=
  statusOf_of_decode decode_seqWord_init

/-- While STATUS is BUSY it is all the host can read. -/
theorem reads_of_busy {s : State} (hbusy : s.status = .busy) :
    readStatus s = 1 ∧ readCause s = none ∧ ∀ j, readDigest s j = none := by
  simp [readStatus, readCause, readDigest, hbusy, Status.code]

/-- Settles O11: the state START leaves is BUSY, with INIT in SEQ. -/
theorem startBeginsARun : Obligations.StartBeginsARun := by
  intro s nn len
  refine ⟨decode_commandWord nn len, fun hidle hlegal => ?_, fun hbusy => execStart_of_busy hbusy nn len⟩
  exact ⟨s.started nn len, execStart_of_accepted hidle hlegal len, State.started_eq s nn len,
    reads_of_busy (status_started s nn len)⟩

/-! Which word the port accepts (R142). -/

theorem accepted_eq_some_iff {s : State} {i : Instr} :
    accepted s = some i ↔
      s.status ≠ .busy ∧ ∃ w, s.cmd = some w ∧ opField w = opStart ∧ i = .start (nnField w) (lenField w) := by
  constructor
  · intro h
    obtain ⟨w, hcmd, hidle, hstart⟩ := accepted_some h
    exact ⟨hidle, w, hcmd, hstart⟩
  · rintro ⟨hidle, w, hcmd, hstart⟩
    exact accepted_of_command hidle hcmd (decode_command_ok_iff.mpr hstart)

/-- The handshake takes the word off CMD (log 7). -/
theorem cmd_of_accepted {s t : State} {i : Instr} (haccepted : accepted s = some i) (h : exec i s = .next t) :
    t.cmd = none := by
  obtain ⟨hidle, w, -, -, rfl⟩ := accepted_eq_some_iff.mp haccepted
  obtain ⟨hbusy, -⟩ | ⟨-, -, rfl⟩ := execStart_next h
  · exact absurd hbusy hidle
  · rfl

/-! The word on CMD while the sequencer runs (R142): no operation of the sequencer reads it or writes it. -/

/-- A move that neither reads nor writes CMD. -/
def IgnoresCmd (f : State → Out) : Prop := ∀ (s : State) (c : Option (BitVec 80)), f (s.setCmd c) = withCmd c (f s)

theorem memRead_ignoresCmd {k : List Byte → State → Out} (hk : ∀ bytes, IgnoresCmd (k bytes)) (s : State) (off : Word)
    (n : Nat) (c : Option (BitVec 80)) : memRead (s.setCmd c) off n k = withCmd c (memRead s off n k) := by
  have hsame : sourceAnswer (s.setCmd c) off n = sourceAnswer s off n := sourceAnswer_congr rfl rfl off n
  cases ha : sourceAnswer s off n with
  | silent => rw [memRead_of_silent k (hsame.trans ha), memRead_of_silent k ha]; rfl
  | err code => rw [memRead_of_err k (hsame.trans ha), memRead_of_err k ha]; rfl
  | ok bytes =>
    rcases Nat.lt_or_ge n bytes.length with hlong | hle
    · rw [memRead_of_longer k (hsame.trans ha) hlong, memRead_of_longer k ha hlong]; rfl
    · rw [memRead_of_ok k (hsame.trans ha) hle, memRead_of_ok k ha hle]
      exact hk bytes (s.answered off n) c

theorem takeBlock_ignoresCmd (bytes : List Byte) : IgnoresCmd (takeBlock bytes) := by
  intro s c
  unfold takeBlock
  split <;> rfl

theorem execLoadn_ignoresCmd : IgnoresCmd execLoadn := fun s => memRead_ignoresCmd takeBlock_ignoresCmd s s.T 128

theorem execLoadf_ignoresCmd : IgnoresCmd execLoadf := by
  intro s c
  by_cases hrange : s.T.toNat ≤ s.LEN.toNat ∧ s.LEN.toNat - s.T.toNat ≤ 128
  · obtain ⟨hle, hcount⟩ := hrange
    rw [execLoadf_of_inRange hle hcount, execLoadf_of_inRange (s := s.setCmd c) hle hcount]
    exact memRead_ignoresCmd (fun _ _ _ => rfl) s s.T (s.LEN.toNat - s.T.toNat) c
  · have hstop : execLoadf s = .fault .finalCountOutOfRange := finalCountOutsideRangeStops s hrange
    rw [hstop]
    exact finalCountOutsideRangeStops (s.setCmd c) hrange

theorem exec_ignoresCmd {i : Instr} (hi : ∀ nn len, i ≠ .start nn len) : IgnoresCmd (exec i) := by
  cases i with
  | start nn len => exact absurd rfl (hi nn len)
  | loadn => exact execLoadn_ignoresCmd
  | loadf => exact execLoadf_ignoresCmd
  | _ => exact fun s c => rfl

/-- A reserved word in SEQ stops a block that is left alone (30_encoding.md R68). -/
theorem step_of_reserved {s : State} {e : DecodeError} (hhost : s.host = []) (hrst : s.rst = false)
    (hreserved : decode (.sequencer s.SEQ) = .bad e) : step s = .fault .reservedSequencerWord :=
  reservedWordIsStuck s e (by rwa [hostMove_nil s hhost]) hreserved

/-- A block that is busy and left alone moves in the same way whatever is on CMD, and leaves it there. -/
theorem step_setCmd_of_busy {s : State} (hhost : s.host = []) (hrst : s.rst = false) (hbusy : s.status = .busy)
    (c : Option (BitVec 80)) : step (s.setCmd c) = withCmd c (step s) := by
  cases hdecode : decode (.sequencer s.SEQ) with
  | ok i =>
    rw [step_of_busy hrst hhost hbusy hdecode, step_of_busy (s := s.setCmd c) hrst hhost hbusy hdecode]
    exact exec_ignoresCmd (fun nn len hi => decode_sequencer_ne_start s.SEQ nn len (hi ▸ hdecode)) s c
  | bad e =>
    rw [step_of_reserved hhost hrst hdecode]
    exact step_of_reserved (s := s.setCmd c) hhost hrst hdecode

/-- Settles O12: while BUSY the step is that of the operation in SEQ, which ignores CMD. -/
theorem acceptanceOfCommands : Obligations.AcceptanceOfCommands :=
  ⟨fun _ _ => accepted_eq_some_iff, fun _ c hhost hrst hbusy => step_setCmd_of_busy hhost hrst hbusy c,
    fun _ _ _ => cmd_of_accepted⟩

/-! A reserved `op` (R147). -/

theorem accepted_of_reservedOp {s : State} {w : BitVec 80} (hcmd : s.cmd = some w) (hop : opField w ≠ opStart) :
    accepted s = none := by
  rw [Option.eq_none_iff_forall_ne_some]
  intro i h
  obtain ⟨w', hcmd', -, hop', -⟩ := accepted_some h
  obtain rfl := Option.some.inj (hcmd.symm.trans hcmd')
  exact hop hop'

/-- Settles O13: with nothing accepted a step runs the operation in SEQ. -/
theorem reservedCommandIsNeverAccepted : Obligations.ReservedCommandIsNeverAccepted := by
  intro s w hcmd hop
  have hnone := accepted_of_reservedOp hcmd hop
  refine ⟨hnone, fun hrst i hdecode => ?_, fun hrst hwaiting => waitStatesChangeNothing.2 s hrst hwaiting hnone⟩
  rw [step_of_legal hrst hdecode, hnone]
  rfl

/-! Where the host's reads have a value (R143). -/

theorem readStatus_eq_three_iff {s : State} : readStatus s = 3 ↔ s.status = .error := by
  unfold readStatus
  cases s.status <;> decide

theorem isSome_readDigest {s : State} {j : Fin 64} :
    (readDigest s j).isSome = true ↔ readStatus s = 2 ∧ j.val < s.NN.toNat := by
  rw [readDigest, readStatus_eq_two_iff]
  simp

/-- HEX has a value where the byte it renders has one (41_digest_driver.md R117). -/
theorem isSome_readHex (s : State) (i : Fin 128) :
    (readHex s i).isSome = (readDigest s ⟨i.val / 2, by omega⟩).isSome := by
  unfold readHex
  split <;> simp [*]

/-- Settles O40: a byte is below NN where both its characters are below 2 NN. -/
theorem hostReadsAreDefinedExactly : Obligations.HostReadsAreDefinedExactly := by
  intro s
  refine ⟨fun j => ?_, fun i => ?_, ?_⟩
  · simp only [readDigest, readStatus_eq_two_iff]
  · have hhalf : i.val / 2 < s.NN.toNat ↔ i.val < 2 * s.NN.toNat := by omega
    rw [isSome_readHex, isSome_readDigest, hhalf]
  · simp only [readCause, readStatus_eq_three_iff]

end Sys2Proof.Machine
end

section
/-!
Exceptions (60_exceptions.md R160, R165): a load raises one at a request that was answered; every other operation, and a
load that raises none, keeps CAUSE and does not enter ERROR.
-/
namespace Sys2Proof.Machine

/-! Which operation has the word of ERROR next. -/

theorem phase_eq_error_of_code_eq {p : Phase} (h : p.code = Phase.error.code) : p = .error := by
  cases p with
  | error => rfl
  | _ => exact absurd h (by decide)

/-- The SEQ advance leads to ERROR for the PHASE of ERROR alone (30_encoding.md R62). -/
theorem seqWord_ne_error {p : Phase} (hp : p ≠ .error) (r k : BitVec 4) : seqWord p r k ≠ 0xB00#12 := by
  intro hword
  have hphase := phaseField_seqWord p r k
  rw [hword] at hphase
  exact hp (phase_eq_error_of_code_eq hphase.symm)

/-- After a mixing micro-operation STATUS is BUSY, so it is not ERROR that comes next. -/
theorem afterMixing_ne_error (r : Fin 12) (k : Fin 8) : afterMixing r k ≠ 0xB00#12 := by
  intro hword
  have hbusy := statusOf_afterMixing r k
  rw [hword] at hbusy
  exact absurd hbusy (by decide)

/-! Raising, and raising nothing. -/

/-- `t` is `s` with an exception taken at a request that was answered (R162, R163, R165). -/
def Raised (s t : State) : Prop := ∃ off n c, t = (s.answered off n).raise c

/-- From `s` to `t` no exception is taken: CAUSE is kept, and ERROR is not entered. -/
def RaisedNothing (s t : State) : Prop := t.CAUSE = s.CAUSE ∧ (t.SEQ = s.SEQ ∨ t.SEQ ≠ 0xB00#12)

theorem RaisedNothing.refl (s : State) : RaisedNothing s s := ⟨rfl, .inl rfl⟩

theorem raisedNothing_advance {s u : State} {p : Phase} {r k : BitVec 4} (hCAUSE : u.CAUSE = s.CAUSE)
    (hp : p ≠ .error) : RaisedNothing s (u.advance p r k) :=
  ⟨hCAUSE, .inr (seqWord_ne_error hp r k)⟩

theorem mixStep_raisedNothing {k : Fin 8} {r : Fin 12} {s t : State} (h : mixStep k r s = .next t) :
    RaisedNothing s t := by
  obtain rfl := Host.Outcome.next.inj h
  exact ⟨by simp, .inr (by simpa using afterMixing_ne_error r k)⟩

theorem execLoadn_raises {s t : State} (h : execLoadn s = .next t) : Raised s t ∨ RaisedNothing s t := by
  obtain ⟨-, rfl⟩ | ⟨code, -, rfl⟩ | ⟨bytes, -, ⟨-, rfl⟩ | ⟨-, rfl⟩⟩ := execLoadn_next h
  · exact .inr (.refl _)
  · exact .inl ⟨_, _, code, rfl⟩
  · exact .inl ⟨_, _, causeShort, rfl⟩
  · exact .inr (raisedNothing_advance (by simp) nofun)

theorem execLoadf_raises {s t : State} (h : execLoadf s = .next t) : Raised s t ∨ RaisedNothing s t := by
  obtain ⟨-, ⟨-, rfl⟩ | ⟨code, -, rfl⟩ | ⟨bytes, -, -, rfl⟩⟩ := execLoadf_next h
  · exact .inr (.refl _)
  · exact .inl ⟨_, _, code, rfl⟩
  · exact .inr (raisedNothing_advance (by simp) nofun)

/-- R160: the operations other than the loads raise nothing. -/
theorem exec_raisedNothing {i : Instr} {s t : State} (h : exec i s = .next t) (hloadn : i ≠ .loadn)
    (hloadf : i ≠ .loadf) : RaisedNothing s t := by
  cases i with
  | start nn len =>
    obtain ⟨-, rfl⟩ | ⟨-, -, rfl⟩ := execStart_next h
    · exact .refl _
    · exact raisedNothing_advance (by simp) nofun
  | loadn => exact absurd rfl hloadn
  | loadf => exact absurd rfl hloadf
  | g0 r | g1 r | g2 r | g3 r | g4 r | g5 r | g6 r | g7 r => exact mixStep_raisedNothing h
  | sel | fold =>
    obtain rfl := Host.Outcome.next.inj h
    exact raisedNothing_advance (by simp) (by split <;> exact nofun)
  | init | vset | mdec | emit =>
    obtain rfl := Host.Outcome.next.inj h
    exact raisedNothing_advance (by simp) nofun
  | idle | done | error =>
    obtain rfl := Host.Outcome.next.inj h
    exact .refl _

/-- Everything an operation can do about exceptions when it answers a next state. -/
theorem exec_raises {i : Instr} {s t : State} (h : exec i s = .next t) :
    ((i = .loadn ∨ i = .loadf) ∧ Raised s t) ∨ RaisedNothing s t := by
  by_cases hloadn : i = .loadn
  · subst hloadn
    exact (execLoadn_raises h).imp_left (⟨.inl rfl, ·⟩)
  by_cases hloadf : i = .loadf
  · subst hloadf
    exact (execLoadf_raises h).imp_left (⟨.inr rfl, ·⟩)
  exact .inr (exec_raisedNothing h hloadn hloadf)

/-- Settles O43: raising is the update that R165 says, and what raises nothing neither enters ERROR nor changes CAUSE. -/
theorem onlyLoadsRaiseAndPrecisely : Obligations.OnlyLoadsRaiseAndPrecisely := by
  intro i s t h
  obtain ⟨hload, off, n, c, rfl⟩ | ⟨hCAUSE, hSEQ⟩ := exec_raises h
  · exact ⟨fun _ _ => ⟨hload, State.raise_eq ..⟩, fun _ => rfl⟩
  · refine ⟨fun herror hbefore => ?_, fun hchanged => absurd hCAUSE hchanged⟩
    obtain hkept | hother := hSEQ
    · exact absurd (hkept.symm.trans herror) hbefore
    · exact absurd herror hother

end Sys2Proof.Machine
end

section
/-!
Reset and progress (70_reset_and_hazards.md): RST wins over everything (R181), and a run whose source answers every
request ends (R189): each of its micro-operations leaves fewer to come, and a source that answers what is left to ask.
-/
namespace Sys2Proof.Machine

/-! RST. -/

/-- A step with RST asserted resets the block, whatever is in SEQ or on CMD (R181). -/
theorem step_of_rst {s : State} (hrst : (hostMove s).rst = true) : step s = .next (hostMove s).resetBlock :=
  if_pos hrst

/-- Settles O8: what a reset writes and what it leaves. -/
theorem resetWinsOverEverything : Obligations.ResetWinsOverEverything := by
  intro s hrst
  have hSEQ : (hostMove s).resetBlock.SEQ = 0x000#12 := (State.resetBlock_SEQ _).trans (by decide)
  have hstatus : (hostMove s).resetBlock.status = .idle := (congrArg statusOf hSEQ).trans (by decide)
  exact ⟨_, step_of_rst hrst, hSEQ, hstatus, State.resetBlock_cmd _, State.resetBlock_mem _,
    State.resetBlock_srcPlan _, State.resetBlock_requests _, (State.resetBlock_rst _).trans hrst, State.resetBlock_host _⟩

/-! What the source has to answer. -/

/-- The source answers the requests from offset `x` on, as far as the run makes them, in a way R41 allows. -/
def AnswersFrom (s : State) (x : Nat) : Prop :=
  ∀ i, (i = 0 ∨ x + 128 * i < s.LEN.toNat) → AnsweredInFull s x i →
    AllowedAnswer (min 128 (s.LEN.toNat - (x + 128 * i))) (answerTo s x i (min 128 (s.LEN.toNat - (x + 128 * i))))

/-- The offset of the next request, by the operation that is next (20_memory.md R46). -/
def offsetAt (s : State) : Instr → Option Nat
  | .done | .error => none
  | .init => some 0
  | .sel | .loadn | .loadf => some s.T.toNat
  | _ => if s.LAST then none else some s.T.toNat

/-- The source answers every request that a run goes on to make from this operation on. -/
def AnswersAt (s : State) (i : Instr) : Prop := ∀ x, offsetAt s i = some x → AnswersFrom s x

/-- From VSET on, only a block that is not the last has a request after it. -/
theorem nextOffset_of_loaded {s : State} {p : Phase} {r k : BitVec 4} (hSEQ : seqWord p r k = s.SEQ)
    (hp : 5 ≤ p.code.toNat) : nextOffset s = if s.LAST then none else some s.T.toNat := by
  have hphase : phaseField s.SEQ = p.code := hSEQ ▸ phaseField_seqWord p r k
  have hinit : s.SEQ ≠ 0x100#12 := by
    intro h
    rw [← hphase, h] at hp
    exact absurd hp (by decide)
  simp only [nextOffset, if_neg hinit, hphase, hp, true_and]

/-- The offset the statement reads off the word in SEQ is that of the operation it decodes to. -/
theorem nextOffset_eq_offsetAt {s : State} {i : Instr} (hdecode : decode (.sequencer s.SEQ) = .ok i)
    (hbusy : statusDuring i = .busy) : nextOffset s = offsetAt s i := by
  have hword := encodeOfDecodeIsIdentity _ _ hdecode
  cases i with
  | start nn len => cases hword
  | idle | done | error => cases hbusy
  | init | sel | loadn | loadf =>
    rw [nextOffset, ← Code.sequencer.inj hword]
    rfl
  | vset | mdec | fold | emit => exact nextOffset_of_loaded (Code.sequencer.inj hword) (by decide)
  | g0 r | g1 r | g2 r | g3 r | g4 r | g5 r | g6 r | g7 r =>
    exact nextOffset_of_loaded (Code.sequencer.inj hword) (by decide)

/-- The request a load makes is the run's next. -/
theorem answerTo_zero (s : State) (n : Nat) : answerTo s s.T.toNat 0 n = sourceAnswer s s.T n := by
  rw [answerTo, Nat.mul_zero, Nat.add_zero, BitVec.ofNat_toNat, BitVec.setWidth_eq]
  rfl

/-- The first of the answers, as a load asks for it. -/
theorem AnswersFrom.first {s : State} (h : AnswersFrom s s.T.toNat) :
    AllowedAnswer (min 128 (s.LEN.toNat - s.T.toNat)) (sourceAnswer s s.T (min 128 (s.LEN.toNat - s.T.toNat))) := by
  have h0 := h 0 (.inl rfl) nofun
  rwa [Nat.mul_zero, Nat.add_zero, answerTo_zero] at h0

/-- What the source answers depends on its contents and its choices, and what it is asked on LEN. -/
theorem answersFrom_congr {s t : State} (hLEN : t.LEN = s.LEN) (hmem : t.mem = s.mem) (hplan : t.srcPlan = s.srcPlan)
    (x : Nat) : AnswersFrom t x ↔ AnswersFrom s x := by
  have hanswer : answerTo t x = answerTo s x := by
    funext i n
    rw [answerTo, answerTo, hplan]
    apply sourceAnswer_congr
    · exact hmem
    · rfl
  simp only [AnswersFrom, AnsweredInFull, hLEN, hanswer]

/-- The requests after the first are those of the source that has answered one, 128 bytes on. -/
theorem answerTo_succ {s t : State} (hmem : t.mem = s.mem) (hplan : t.srcPlan = s.srcPlan.tail) (x i n : Nat) :
    answerTo t (x + 128) i n = answerTo s x (i + 1) n := by
  rw [answerTo, answerTo, hplan, List.drop_tail, show x + 128 + 128 * i = x + 128 * (i + 1) by omega]
  apply sourceAnswer_congr
  · exact hmem
  · rfl

/-- With the first request answered in full, and one more to come, the others are still answered. -/
theorem AnswersFrom.rest {s t : State} {x : Nat} (h : AnswersFrom s x) (hmem : t.mem = s.mem)
    (hplan : t.srcPlan = s.srcPlan.tail) (hLEN : t.LEN = s.LEN) (hmore : x + 128 < s.LEN.toNat) {bytes : List Byte}
    (hok : answerTo s x 0 128 = .ok bytes) (hlen : bytes.length = 128) : AnswersFrom t (x + 128) := by
  intro i hi hfull
  have hfull' : AnsweredInFull s x (i + 1) := by
    intro j hj
    cases j with
    | zero => exact ⟨bytes, hok, hlen⟩
    | succ j =>
      rw [← answerTo_succ hmem hplan]
      exact hfull j (by omega)
  have hnext := h (i + 1) (.inr (by rw [hLEN] at hi; omega)) hfull'
  rwa [answerTo_succ hmem hplan, hLEN, show x + 128 + 128 * i = x + 128 * (i + 1) by omega]

/-- LOADN's count of a whole block does not wrap where more remains (41_digest_driver.md R113). -/
theorem toNat_add_block {s : State} (hmore : s.T.toNat + 128 < s.LEN.toNat) : (s.T + 128).toNat = s.T.toNat + 128 := by
  rw [BitVec.toNat_add]
  exact Nat.mod_eq_of_lt (hmore.trans s.LEN.isLt)

/-! How many micro-operations are left. -/

/-- The compressions of what the counter leaves (41_digest_driver.md R119). -/
def compressionsLeft (s : State) : Nat := compressions (s.LEN.toNat - s.T.toNat)

/-- The compressions a run goes on to load a block for. -/
def blocksAhead (s : State) : Instr → Nat
  | .init => compressions s.LEN.toNat
  | .sel | .loadn | .loadf => compressionsLeft s
  | .vset | .mdec | .g0 _ | .g1 _ | .g2 _ | .g3 _ | .g4 _ | .g5 _ | .g6 _ | .g7 _ | .fold =>
    if s.LAST then 0 else compressionsLeft s
  | .emit | .start _ _ | .idle | .done | .error => 0

/-- The micro-operations left beside the 101 of each block ahead: of the block that is loaded, and EMIT. -/
def stepsBeside : Instr → Nat
  | .init => 2
  | .sel => 1
  | .vset => 100
  | .mdec => 99
  | .g0 r => 8 * (11 - r.val) + 10
  | .g1 r => 8 * (11 - r.val) + 9
  | .g2 r => 8 * (11 - r.val) + 8
  | .g3 r => 8 * (11 - r.val) + 7
  | .g4 r => 8 * (11 - r.val) + 6
  | .g5 r => 8 * (11 - r.val) + 5
  | .g6 r => 8 * (11 - r.val) + 4
  | .g7 r => 8 * (11 - r.val) + 3
  | .fold => 2
  | .emit => 1
  | .loadn | .loadf | .start _ _ | .idle | .done | .error => 0

/-- The micro-operations left to a run that meets no error (70_reset_and_hazards.md R189). -/
def stepsLeft (s : State) (i : Instr) : Nat := 101 * blocksAhead s i + stepsBeside i

theorem compressions_pos (n : Nat) : 0 < compressions n := Nat.succ_pos _

/-- A block that is not the last is one of those to come (41_digest_driver.md R119). -/
theorem compressions_of_more {n : Nat} (h : 128 < n) : compressions n = compressions (n - 128) + 1 := by
  simp only [compressions, nonFinalBlocks]
  omega

theorem compressions_mono {m n : Nat} (h : m ≤ n) : compressions m ≤ compressions n := by
  simp only [compressions, nonFinalBlocks]
  omega

/-- With a block loaded there is one less to come than the run has in all (R115). -/
theorem blocksAhead_of_loaded {s : State} (hloaded : LoadedInv s) :
    (if s.LAST then 0 else compressionsLeft s) + 1 ≤ compressions s.LEN.toNat := by
  cases hLAST : s.LAST with
  | true => exact compressions_pos _
  | false =>
    simp only [LoadedInv, hLAST, Bool.false_eq_true, if_false] at hloaded ⊢
    obtain ⟨⟨q, hq⟩, hpos, hlt⟩ := hloaded
    rw [compressions_of_more (n := s.LEN.toNat) (by omega)]
    exact Nat.succ_le_succ (compressions_mono (by omega))

theorem stepsBeside_le (i : Instr) : stepsBeside i ≤ 100 := by
  unfold stepsBeside
  split <;> omega

/-- What is left before a block is loaded, and after the last. -/
theorem stepsLeft_le_of_unloaded {s : State} {i : Instr} (hahead : blocksAhead s i ≤ compressions s.LEN.toNat)
    (hbeside : stepsBeside i ≤ 2) : stepsLeft s i ≤ 101 * compressions s.LEN.toNat + 2 :=
  Nat.add_le_add (Nat.mul_le_mul_left 101 hahead) hbeside

/-- What is left with a block loaded. -/
theorem stepsLeft_le_of_loaded {s : State} {i : Instr} (hahead : blocksAhead s i + 1 ≤ compressions s.LEN.toNat) :
    stepsLeft s i ≤ 101 * compressions s.LEN.toNat + 2 := by
  have hbeside := stepsBeside_le i
  rw [stepsLeft]
  omega

/-- A run in progress has at most its whole length left. -/
theorem stepsLeft_le {s : State} {i : Instr} (hphase : PhaseInv s i) :
    stepsLeft s i ≤ 101 * compressions s.LEN.toNat + 2 := by
  cases i with
  | start nn len => exact hphase.elim
  | init => exact le_rfl
  | sel | loadn | loadf => exact stepsLeft_le_of_unloaded (compressions_mono (Nat.sub_le _ _)) (by decide)
  | emit | idle | done | error => exact stepsLeft_le_of_unloaded (Nat.zero_le _) (by decide)
  | vset | mdec | fold => exact stepsLeft_le_of_loaded (blocksAhead_of_loaded hphase.2)
  | g0 r | g1 r | g2 r | g3 r | g4 r | g5 r | g6 r | g7 r =>
    exact stepsLeft_le_of_loaded (blocksAhead_of_loaded hphase.2)

/-! What most operations leave alone. -/

/-- What the rest of a run is counted by, and what answers its requests, are the same in both. -/
structure SameCount (s t : State) : Prop where
  LAST : t.LAST = s.LAST
  T : t.T = s.T
  LEN : t.LEN = s.LEN
  mem : t.mem = s.mem
  srcPlan : t.srcPlan = s.srcPlan

section
variable {s t : State} (h : SameCount s t)
include h

theorem SameCount.blocksAhead_eq (i : Instr) : blocksAhead t i = blocksAhead s i := by
  simp only [blocksAhead, compressionsLeft, h.LAST, h.T, h.LEN]

theorem SameCount.answersAt_iff (i : Instr) : AnswersAt t i ↔ AnswersAt s i := by
  have hoffset : offsetAt t i = offsetAt s i := by simp only [offsetAt, h.LAST, h.T]
  rw [AnswersAt, AnswersAt, hoffset]
  exact forall₂_congr fun x _ => answersFrom_congr h.LEN h.mem h.srcPlan x

end

/-- The operations that neither begin the count nor go on with it. -/
def CountsNothing : Instr → Prop
  | .start _ _ | .init | .loadn | .loadf => False
  | _ => True

theorem exec_sameCount {i : Instr} {s t : State} (hi : CountsNothing i) (h : exec i s = .next t) : SameCount s t := by
  obtain ⟨-, -, -, -, hLAST, hT, hstart, -, -, hsource, hmem, -, -⟩ := writersOfEachRegister i s t h
  have hinit : i ≠ .init := by rintro rfl; exact hi
  have hloadn : i ≠ .loadn := by rintro rfl; exact hi
  have hloadf : i ≠ .loadf := by rintro rfl; exact hi
  have hnostart : ¬ ∃ nn len, i = .start nn len := by rintro ⟨nn, len, rfl⟩; exact hi
  simp only [hinit, hloadn, hloadf, hnostart, or_false] at hLAST hT hstart hsource
  obtain ⟨hLEN, -⟩ := hstart
  obtain ⟨-, hplan⟩ := hsource
  exact ⟨hLAST, hT, hLEN, hmem, hplan⟩

/-! One micro-operation of a run. -/

/-- A run that nothing disturbs is at the operation `i`, or has ended there, and the source answers all that is still
asked. -/
structure RunsAt (s : State) (i : Instr) : Prop where
  undisturbed : Undisturbed s
  decodes : decode (.sequencer s.SEQ) = .ok i
  phase : PhaseInv s i
  notIdle : i ≠ .idle
  answers : AnswersAt s i

/-- The next step leads to an operation of the run with fewer micro-operations left. -/
def Progresses (s : State) (i : Instr) : Prop :=
  ∃ t j, step s = .next t ∧ RunsAt t j ∧ stepsLeft t j < stepsLeft s i

section
variable {s : State} {i : Instr} (h : RunsAt s i) (hbusy : statusDuring i = .busy)
include h hbusy

/-- The invariant and the surroundings are kept by every operation; the rest is for each to show. -/
theorem RunsAt.progresses {t : State} {j : Instr} (hexec : exec i s = .next t)
    (hnext : decode (.sequencer t.SEQ) = .ok j) (hidle : j ≠ .idle) (hanswers : AnswersAt t j)
    (hless : stepsLeft t j < stepsLeft s i) : Progresses s i := by
  obtain ⟨hrst, hhost⟩ := h.undisturbed
  have hstep := step_of_busy hrst hhost ((statusOf_of_decode h.decodes).trans hbusy) h.decodes
  obtain ⟨-, -, -, -, -, -, -, -, -, -, -, hrst', hhost'⟩ := writersOfEachRegister i s t hexec
  obtain ⟨j', hdecode', hphase⟩ := exec_sequencerInv h.decodes h.phase hexec
  obtain rfl : j = j' := Decoded.ok.inj (hnext.symm.trans hdecode')
  have hundisturbed : Undisturbed t := ⟨hrst'.trans hrst, hhost'.trans hhost⟩
  exact ⟨t, j, hstep.trans hexec, ⟨hundisturbed, hnext, hphase, hidle, hanswers⟩, hless⟩

/-- An operation that leaves counter and source alone, and after which as much is ahead. -/
theorem RunsAt.progresses_of_same {t : State} {j : Instr} (hexec : exec i s = .next t)
    (hnext : decode (.sequencer t.SEQ) = .ok j) (hidle : j ≠ .idle) (hcount : CountsNothing i)
    (hoffset : offsetAt s j = offsetAt s i) (hblocks : blocksAhead s j = blocksAhead s i)
    (hbeside : stepsBeside j < stepsBeside i) : Progresses s i := by
  have hkept := exec_sameCount hcount hexec
  refine h.progresses hbusy hexec hnext hidle ((hkept.answersAt_iff j).mpr fun x hx => ?_) ?_
  · exact h.answers x (hoffset ▸ hx)
  · rw [stepsLeft, stepsLeft, hkept.blocksAhead_eq, hblocks]
    omega

/-- An exception ends a run. -/
theorem RunsAt.progresses_of_raise {u : State} {c : Byte} (hexec : exec i s = .next (u.raise c))
    (hpos : 0 < stepsLeft s i) : Progresses s i :=
  h.progresses hbusy hexec decode_seqWord_error nofun nofun hpos

end

/-- LOADN raises what the source answers, or loads a block and leaves fewer to come. -/
theorem RunsAt.progresses_loadn {s : State} (h : RunsAt s .loadn) : Progresses s .loadn := by
  obtain ⟨-, -, hmore⟩ := h.phase
  have hanswers : AnswersFrom s s.T.toNat := h.answers _ rfl
  have hallowed := hanswers.first
  rw [show min 128 (s.LEN.toNat - s.T.toNat) = 128 by omega] at hallowed
  have hpos : 0 < stepsLeft s .loadn := Nat.mul_pos (by decide) (compressions_pos _)
  cases hanswer : sourceAnswer s s.T 128 with
  | silent => rw [hanswer] at hallowed; exact hallowed.elim
  | err code => exact h.progresses_of_raise rfl (execLoadn_of_err hanswer) hpos
  | ok bytes =>
    rw [hanswer] at hallowed
    obtain hshort | hfull := Nat.lt_or_eq_of_le hallowed
    · exact h.progresses_of_raise rfl (execLoadn_of_short hanswer hshort) hpos
    · have hexec := execLoadn_of_block hanswer hfull
      have hT := toNat_add_block hmore
      rw [← answerTo_zero] at hanswer
      -- what is left of the run does not depend on the block's bytes: named, they are not computed
      generalize blockOf bytes = b at hexec
      generalize s.T + 128 = c at hexec hT
      refine h.progresses rfl hexec decode_seqWord_vset nofun (fun x hx => ?_) ?_
      · obtain rfl : c.toNat = x := Option.some.inj hx
        rw [hT]
        exact hanswers.rest rfl rfl rfl hmore hanswer hfull
      · show 101 * compressions (s.LEN.toNat - c.toNat) + 100 < 101 * compressions (s.LEN.toNat - s.T.toNat)
        rw [hT, Nat.sub_add_eq, compressions_of_more (n := s.LEN.toNat - s.T.toNat) (by omega)]
        omega

/-- LOADF raises what the source answers, or loads the last block. -/
theorem RunsAt.progresses_loadf {s : State} (h : RunsAt s .loadf) : Progresses s .loadf := by
  obtain ⟨-, ⟨-, hle, -⟩, hlast⟩ := h.phase
  have hcount : s.LEN.toNat - s.T.toNat ≤ 128 := by omega
  have hanswers : AnswersFrom s s.T.toNat := h.answers _ rfl
  have hallowed := hanswers.first
  rw [Nat.min_eq_right hcount] at hallowed
  have hpos := compressions_pos (s.LEN.toNat - s.T.toNat)
  cases hanswer : sourceAnswer s s.T (s.LEN.toNat - s.T.toNat) with
  | silent => rw [hanswer] at hallowed; exact hallowed.elim
  | err code => exact h.progresses_of_raise rfl (execLoadf_of_err hle hcount hanswer) (Nat.mul_pos (by decide) hpos)
  | ok bytes =>
    rw [hanswer] at hallowed
    refine h.progresses rfl (execLoadf_of_bytes hle hcount hanswer hallowed) decode_seqWord_vset nofun nofun ?_
    show 100 < 101 * compressions (s.LEN.toNat - s.T.toNat)
    omega

/-- FOLD leads to EMIT with nothing ahead, or to SEL with all that was. -/
theorem RunsAt.progresses_fold {s : State} (h : RunsAt s .fold) : Progresses s .fold := by
  have hexec : exec .fold s = _ := execFold_eq s
  cases hLAST : s.LAST with
  | true =>
    rw [hLAST] at hexec
    exact h.progresses_of_same rfl hexec decode_emit_word nofun trivial rfl (by simp [blocksAhead, hLAST]) (by decide)
  | false =>
    rw [hLAST] at hexec
    exact h.progresses_of_same rfl hexec decode_sel_word nofun trivial (by simp [offsetAt, hLAST])
      (by simp [blocksAhead, hLAST]) (by decide)

/-- INIT leads to SEL with the whole run ahead. -/
theorem RunsAt.progresses_init {s : State} (h : RunsAt s .init) : Progresses s .init := by
  refine h.progresses rfl rfl decode_seqWord_sel nofun (fun x hx => ?_) ?_
  · exact (answersFrom_congr rfl rfl rfl x).mpr (h.answers x hx)
  · show 101 * compressions s.LEN.toNat + 1 < 101 * compressions s.LEN.toNat + 2
    omega

/-- SEL leads to the one load or the other. -/
theorem RunsAt.progresses_sel {s : State} (h : RunsAt s .sel) : Progresses s .sel := by
  have hexec : exec .sel s = .next (s.advance (if moreThanBlockLeft s then .loadn else .loadf) 0 0) := rfl
  cases hmore : moreThanBlockLeft s with
  | true =>
    rw [hmore] at hexec
    exact h.progresses_of_same rfl hexec decode_seqWord_loadn nofun trivial rfl rfl (by decide)
  | false =>
    rw [hmore] at hexec
    exact h.progresses_of_same rfl hexec decode_seqWord_loadf nofun trivial rfl rfl (by decide)

/-- G7 leads to the next round or to FOLD (40_compression_engine.md R89 line 4). -/
theorem RunsAt.progresses_g7 {s : State} {r : Fin 12} (h : RunsAt s (.g7 r)) : Progresses s (.g7 r) := by
  have hnext := decode_afterMixing_7 r
  split at hnext
  · exact h.progresses_of_same rfl rfl hnext nofun trivial rfl rfl (by simp only [stepsBeside]; omega)
  · exact h.progresses_of_same rfl rfl hnext nofun trivial rfl rfl (by simp only [stepsBeside]; omega)

/-- Every operation of a run leads on. -/
theorem RunsAt.progresses_of_busy {s : State} {i : Instr} (h : RunsAt s i) (hbusy : statusDuring i = .busy) :
    Progresses s i := by
  cases i with
  | start nn len => exact h.phase.elim
  | idle | done | error => cases hbusy
  | init => exact h.progresses_init
  | sel => exact h.progresses_sel
  | loadn => exact h.progresses_loadn
  | loadf => exact h.progresses_loadf
  | vset => exact h.progresses_of_same rfl rfl decode_seqWord_mdec nofun trivial rfl rfl (by decide)
  | mdec => exact h.progresses_of_same rfl rfl decode_seqWord_g nofun trivial rfl rfl (by decide)
  | g0 r => exact h.progresses_of_same rfl rfl (decode_afterMixing_0 r) nofun trivial rfl rfl (Nat.lt_succ_self _)
  | g1 r => exact h.progresses_of_same rfl rfl (decode_afterMixing_1 r) nofun trivial rfl rfl (Nat.lt_succ_self _)
  | g2 r => exact h.progresses_of_same rfl rfl (decode_afterMixing_2 r) nofun trivial rfl rfl (Nat.lt_succ_self _)
  | g3 r => exact h.progresses_of_same rfl rfl (decode_afterMixing_3 r) nofun trivial rfl rfl (Nat.lt_succ_self _)
  | g4 r => exact h.progresses_of_same rfl rfl (decode_afterMixing_4 r) nofun trivial rfl rfl (Nat.lt_succ_self _)
  | g5 r => exact h.progresses_of_same rfl rfl (decode_afterMixing_5 r) nofun trivial rfl rfl (Nat.lt_succ_self _)
  | g6 r => exact h.progresses_of_same rfl rfl (decode_afterMixing_6 r) nofun trivial rfl rfl (Nat.lt_succ_self _)
  | g7 r => exact h.progresses_g7
  | fold => exact h.progresses_fold
  | emit => exact h.progresses rfl (execEmit_eq s) decode_seqWord_done nofun nofun Nat.one_pos

/-! The run. -/

/-- A run that is no longer at work is in DONE or in ERROR. -/
theorem RunsAt.ended {s : State} {i : Instr} (h : RunsAt s i) (hwaits : statusDuring i ≠ .busy) :
    s.SEQ = 0xA00#12 ∨ s.SEQ = 0xB00#12 := by
  have hword := encodeOfDecodeIsIdentity _ _ h.decodes
  cases i with
  | idle => exact absurd rfl h.notIdle
  | done => exact .inl (Code.sequencer.inj hword).symm
  | error => exact .inr (Code.sequencer.inj hword).symm
  | _ => exact absurd rfl hwaits

/-- A run ends within the micro-operations it has left: each leaves fewer. -/
theorem RunsAt.ends {s : State} {i : Instr} (h : RunsAt s i) :
    ∃ k t, k ≤ stepsLeft s i ∧ runSteps k s = .next t ∧ (t.SEQ = 0xA00#12 ∨ t.SEQ = 0xB00#12) := by
  induction hn : stepsLeft s i using Nat.strong_induction_on generalizing s i with
  | _ n ih =>
    by_cases hbusy : statusDuring i = .busy
    · obtain ⟨u, j, hstep, hu, hless⟩ := h.progresses_of_busy hbusy
      obtain ⟨k, t, hk, hrun, hend⟩ := ih _ (hn ▸ hless) hu rfl
      exact ⟨k + 1, t, by omega, (runSteps_succ_of_next hstep k).trans hrun, hend⟩
    · exact ⟨0, s, Nat.zero_le n, runSteps_zero s, h.ended hbusy⟩

/-- Settles O53: at no operation has a run more left than the whole run has from INIT on. -/
theorem everyAnsweredRunEnds : Obligations.EveryAnsweredRunEnds := by
  intro s hinv hundisturbed hbusy hanswers
  obtain ⟨⟨i, hdecode, hphase⟩, -⟩ := hinv
  have hduring : statusDuring i = .busy := (statusOf_of_decode hdecode).symm.trans hbusy
  have hidle : i ≠ .idle := by
    rintro rfl
    cases hduring
  have hoffset := nextOffset_eq_offsetAt hdecode hduring
  have hruns : RunsAt s i := ⟨hundisturbed, hdecode, hphase, hidle, fun x hx => hanswers x (hoffset.trans hx)⟩
  obtain ⟨k, t, hk, hrun, hend⟩ := hruns.ends
  exact ⟨k, t, hk.trans (stepsLeft_le hphase), hrun, hend⟩

end Sys2Proof.Machine
end
